-- ==== Sys2Proof/Word.lean ====
section
/-! DEFINITION. The words of the machine: command and response words (R100, R104), bytes, port numbers, devices. -/

namespace Sys2Proof

/-- A command word or a response word (R100, R104). -/
abbrev Word := BitVec 32

/-- A byte: the unit of every exchange and of every memory access (00_scope.md R8, R70). -/
abbrev Byte := BitVec 8

/-- The DATA field of a response, and the result accumulator `RES` (R22, R104). -/
abbrev Data := BitVec 28

/-- A requester port number. `N_PORTS` is at most 8 (R8), and `CR4.OWNER` has 3 bits (R31). -/
abbrev Port := Fin 8

/-- The three peripherals on the bus; the device index of R8 (`RTC = 0`, `SNS = 1`, `LCD = 2`). -/
inductive Dev where
  | rtc | sns | lcd
deriving DecidableEq, Repr

end Sys2Proof
end

