-- ==== Sys2Proof/Syntax.lean ====
section
/-! DEFINITION. The commands of SPI-MTC command set 1.0: one constructor per row of the opcode table (R101), operands in
the document's argument order (R103, R110). -/

namespace Sys2Proof

/-- A command. Every operand is an unsigned byte "taken from its field as it stands" (R103). -/
inductive Instr where
  /-- RTC_WR: write one RTC register (R173). -/
  | rtcWr (addr value : Byte)
  /-- RTC_RD: read one RTC register (R174). -/
  | rtcRd (addr : Byte)
  /-- RTC_BWR: write `count` consecutive RTC registers from DMEM (R175). -/
  | rtcBwr (buf startAddr count : Byte)
  /-- RTC_BRD: read `count` consecutive RTC registers into DMEM (R176). -/
  | rtcBrd (buf startAddr count : Byte)
  /-- RTC_TIME: read hours, minutes, seconds (R177). -/
  | rtcTime
  /-- FMT_TIME: BCD byte to decimal (R178). -/
  | fmtTime (bcd : Byte)
  /-- SNS_CFG: load the sensor's bus mode and drain a stale byte (R192). -/
  | snsCfg
  /-- SNS_RD: read one sensor sample (R193). -/
  | snsRd
  /-- LCD_CMD: send one command byte (R203). -/
  | lcdCmd (byte : Byte)
  /-- LCD_DAT: send one data byte (R204). -/
  | lcdDat (byte : Byte)
  /-- LCD_INIT: the nine-command initialisation (R205). -/
  | lcdInit
  /-- LCD_DRAW: paint the three lines (R206). -/
  | lcdDraw (buf1 buf2 buf3 : Byte)
  /-- CR_RD: read control register `n` (R221). -/
  | crRd (n : Byte)
deriving DecidableEq, Repr

end Sys2Proof
end

