-- ==== Sys2Proof/Decode.lean ====
section
/-! DEFINITION. Decoding and encoding of command words: 30_encoding.md R100 to R108 and R111; and the operand checks of
R232, which like decoding depend on the command word alone (R148). -/

namespace Sys2Proof

/-- The opcode of each command (R101). -/
def Instr.opcode : Instr → BitVec 4
  | .rtcWr _ _ => 0x1
  | .rtcRd _ => 0x2
  | .rtcBwr _ _ _ => 0x3
  | .rtcBrd _ _ _ => 0x4
  | .rtcTime => 0x5
  | .fmtTime _ => 0x6
  | .snsCfg => 0x7
  | .snsRd => 0x8
  | .lcdCmd _ => 0x9
  | .lcdDat _ => 0xA
  | .lcdInit => 0xB
  | .lcdDraw _ _ _ => 0xC
  | .crRd _ => 0xD

/-- The formats of R102: which operand bytes a command uses. -/
inductive Format where
  | n | b | a | ab | cab
deriving DecidableEq, Repr

/-- "mask (bits a decoder compares)" (R102). -/
def Format.mask : Format → Word
  | .n => 0xFFFFFFFF
  | .b => 0xFFFFFF00
  | .a => 0xFFFF00FF
  | .ab => 0xFFFF0000
  | .cab => 0xFF000000

/-- `OP`, bits 31:28 (R100). -/
def wordOp (w : Word) : BitVec 4 := w.extractLsb' 28 4

/-- `RSV`, bits 27:24 (R100). -/
def wordRsv (w : Word) : BitVec 4 := w.extractLsb' 24 4

/-- `C`, bits 23:16 (R100). -/
def wordC (w : Word) : Byte := w.extractLsb' 16 8

/-- `A`, bits 15:8 (R100). -/
def wordA (w : Word) : Byte := w.extractLsb' 8 8

/-- `B`, bits 7:0 (R100). -/
def wordB (w : Word) : Byte := w.extractLsb' 0 8

/-- Why a word is illegal (R106): (a) a reserved opcode, (b) `RSV` not 0, (c) an operand byte its format does not use is
not 0. The three are one fault, ILLEGAL_COMMAND; the name only says which clause was met first (log 20). -/
inductive Illegal where
  | reservedOpcode (op : BitVec 4)
  | reservedField
  | unusedOperand
deriving DecidableEq, Repr

/-- What a word decodes to: "every one of the 2^32 words is either exactly one command or illegal" (R106, R107). -/
inductive Decoded where
  | command (i : Instr)
  | illegal (why : Illegal)
deriving DecidableEq, Repr

/-- One row of the table (R102, R108): the word matches `OP = k` with the format's mask iff `w & mask = k << 28`. -/
def matchRow (w : Word) (k : BitVec 4) (f : Format) (i : Instr) : Decoded :=
  if w &&& f.mask = k.setWidth 32 <<< 28 then .command i
  else if wordRsv w ≠ 0 then .illegal .reservedField
  else .illegal .unusedOperand

/-- R107: decoding, total on 32-bit words. The rows differ in `OP` and every mask contains `OP`, so the row is chosen by `OP`. -/
def decode (w : Word) : Decoded :=
  match (wordOp w).toNat with
  | 1 => matchRow w 0x1 .ab (.rtcWr (wordA w) (wordB w))
  | 2 => matchRow w 0x2 .a (.rtcRd (wordA w))
  | 3 => matchRow w 0x3 .cab (.rtcBwr (wordC w) (wordA w) (wordB w))
  | 4 => matchRow w 0x4 .cab (.rtcBrd (wordC w) (wordA w) (wordB w))
  | 5 => matchRow w 0x5 .n .rtcTime
  | 6 => matchRow w 0x6 .b (.fmtTime (wordB w))
  | 7 => matchRow w 0x7 .n .snsCfg
  | 8 => matchRow w 0x8 .n .snsRd
  | 9 => matchRow w 0x9 .b (.lcdCmd (wordB w))
  | 10 => matchRow w 0xA .b (.lcdDat (wordB w))
  | 11 => matchRow w 0xB .n .lcdInit
  | 12 => matchRow w 0xC .cab (.lcdDraw (wordC w) (wordA w) (wordB w))
  | 13 => matchRow w 0xD .b (.crRd (wordB w))
  | _ => .illegal (.reservedOpcode (wordOp w))

/-- The decoder on a table row's bits (numbered as the table numbers them). A command is one 32-bit word delivered whole
(R100, R68 item 4): it has no byte order, and bits above `nbits` are 0. -/
def decodeTableWord (nbits w : Nat) : Option Instr :=
  match decode (BitVec.ofNat 32 (w % 2 ^ nbits)) with
  | .command i => some i
  | .illegal _ => none

/-- R111: `encode(OP, C, A, B) = (OP << 28) | (C << 16) | (A << 8) | B`, with `RSV = 0`. -/
def encodeFields (op : BitVec 4) (c a b : Byte) : Word := op ++ (0 : BitVec 4) ++ c ++ a ++ b

/-- The word of a command (R103, R108, R111): absent operands are 0. -/
def encode : Instr → Word
  | .rtcWr addr value => encodeFields 0x1 0 addr value
  | .rtcRd addr => encodeFields 0x2 0 addr 0
  | .rtcBwr buf startAddr count => encodeFields 0x3 buf startAddr count
  | .rtcBrd buf startAddr count => encodeFields 0x4 buf startAddr count
  | .rtcTime => encodeFields 0x5 0 0 0
  | .fmtTime bcd => encodeFields 0x6 0 0 bcd
  | .snsCfg => encodeFields 0x7 0 0 0
  | .snsRd => encodeFields 0x8 0 0 0
  | .lcdCmd byte => encodeFields 0x9 0 0 byte
  | .lcdDat byte => encodeFields 0xA 0 0 byte
  | .lcdInit => encodeFields 0xB 0 0 0
  | .lcdDraw buf1 buf2 buf3 => encodeFields 0xC buf1 buf2 buf3
  | .crRd n => encodeFields 0xD 0 0 n

/-- `B ≥ 1` and `C + B ≤ 256`: a block transfer of at least one byte whose buffer lies in DMEM (R232, R175, R176). -/
def blockInDmem (buf count : Byte) : Bool :=
  decide (1 ≤ count.toNat) && decide (buf.toNat + count.toNat ≤ 256)

/-- A 16-byte line buffer lies in DMEM (R232, R206). -/
def lineInDmem (buf : Byte) : Bool := decide (buf.toNat ≤ 240)

/-- "control registers are `CR0`..`CR4`" (R232, R221). -/
def crExists (n : Byte) : Bool := decide (n.toNat ≤ 4)

/-- The complete list of operand checks (R232). "No other command has an operand check". -/
def Instr.operandsOk : Instr → Bool
  | .rtcWr _ _ => true
  | .rtcRd _ => true
  | .rtcBwr buf _ count => blockInDmem buf count
  | .rtcBrd buf _ count => blockInDmem buf count
  | .rtcTime => true
  | .fmtTime _ => true
  | .snsCfg => true
  | .snsRd => true
  | .lcdCmd _ => true
  | .lcdDat _ => true
  | .lcdInit => true
  | .lcdDraw buf1 buf2 buf3 => lineInDmem buf1 && lineInDmem buf2 && lineInDmem buf3
  | .crRd n => crExists n

/-- The bus commands of R132 (the operand check apart): those that need ownership of the bus. -/
def Instr.usesBus : Instr → Bool
  | .rtcWr _ _ => true
  | .rtcRd _ => true
  | .rtcBwr _ _ _ => true
  | .rtcBrd _ _ _ => true
  | .rtcTime => true
  | .fmtTime _ => false
  | .snsCfg => true
  | .snsRd => true
  | .lcdCmd _ => true
  | .lcdDat _ => true
  | .lcdInit => true
  | .lcdDraw _ _ _ => true
  | .crRd _ => false

end Sys2Proof
end

