-- ==== Sys2Proof/Config.lean ====
section
/-! DEFINITION. The parameters of 00_scope.md R8 (what an implementation fixes), their constraints, and REFCFG (R9).

A configuration is plain data held in the machine's state and changed by no step: a statement about every state is a
statement about every configuration (log 1). -/

namespace Sys2Proof

/-- One value for each device. -/
structure PerDev (α : Type) where
  rtc : α
  sns : α
  lcd : α
deriving DecidableEq, Repr

/-- The value for one device. -/
def PerDev.get {α : Type} (v : PerDev α) : Dev → α
  | .rtc => v.rtc
  | .sns => v.sns
  | .lcd => v.lcd

/-- The value of one device replaced, the others kept. -/
def PerDev.set {α : Type} (v : PerDev α) (d : Dev) (x : α) : PerDev α :=
  match d with
  | .rtc => { v with rtc := x }
  | .sns => { v with sns := x }
  | .lcd => { v with lcd := x }

/-- `MODE[dev]` (R8): bus clock polarity, phase and the opaque clock-rate selector. -/
structure BusMode where
  cpol   : Bool
  cpha   : Bool
  clksel : BitVec 4
deriving DecidableEq, Repr

/-- The nine command bytes of `LCD_INIT`, in the order of R8 and R205. -/
structure LcdInitSeq where
  functionSet1 : Byte
  functionSet2 : Byte
  bias         : Byte
  power        : Byte
  follower     : Byte
  contrast     : Byte
  displayOn    : Byte
  clear        : Byte
  entryMode    : Byte
deriving DecidableEq, Repr

/-- `LCD_INIT_SEQ[0..8]` as a list. -/
def LcdInitSeq.toList (q : LcdInitSeq) : List Byte :=
  [q.functionSet1, q.functionSet2, q.bias, q.power, q.follower, q.contrast, q.displayOn, q.clear, q.entryMode]

/-- `LCD_LINE_BASE[0..2]` (R8): for each display line, the command byte that sets its DDRAM base address. -/
structure LineBases where
  line1 : Byte
  line2 : Byte
  line3 : Byte
deriving DecidableEq, Repr

/-- `BIT_ORDER` (R8, R67): the order of the bits of a byte on the wire. No rule depends on it (log 17). -/
inductive BitOrder where
  | msbFirst | lsbFirst
deriving DecidableEq, Repr

/-- `ARB_POLICY` (R8, R132): which pending requester is granted a free bus. -/
inductive ArbPolicy where
  | fixedLowestPort | anyPending
deriving DecidableEq, Repr

/-- The timing margins a `Delay` is called with (R139, R251): the names that the events `D(name)` carry (R12). -/
inductive Margin where
  | setup (d : Dev)
  | hold (d : Dev)
  | settle (d : Dev)
  | snsWarmup
  | lcdPowerup
deriving DecidableEq, Repr

/-- The configuration record of R8. -/
structure Config where
  nPorts             : Nat
  mode               : PerDev BusMode
  csActive           : PerDev Bool
  tSetup             : PerDev Nat
  tHold              : PerDev Nat
  tSettle            : PerDev Nat
  tSnsWarmup         : Nat
  tLcdPowerup        : Nat
  rsCmd              : Bool
  rsData             : Bool
  dummyByte          : Byte
  rtcWriteTag        : Bool
  rtcAddrHr          : BitVec 7
  rtcAddrMin         : BitVec 7
  rtcAddrSec         : BitVec 7
  lcdInitSeq         : LcdInitSeq
  lcdLineBase        : LineBases
  lcdDrainCmdBefore  : Bool
  bitOrder           : BitOrder
  arbPolicy          : ArbPolicy
deriving DecidableEq, Repr

/-- "constraint the model may assume" (R8), whole. That `LCD_INIT_SEQ[0]` and `[1]` are function-set commands is a
statement about the display part and says nothing of their values. -/
def Config.valid (c : Config) : Bool :=
  decide (1 ≤ c.nPorts ∧ c.nPorts ≤ 8)
  && decide ((c.mode.rtc.cpol, c.mode.rtc.cpha) ≠ (c.mode.sns.cpol, c.mode.sns.cpha))
  && decide ((c.mode.lcd.cpol, c.mode.lcd.cpha) ≠ (c.mode.sns.cpol, c.mode.sns.cpha))
  && decide (c.csActive.sns = false) && decide (c.csActive.rtc = true)
  && decide (c.rsCmd ≠ c.rsData)
  && decide (c.rtcAddrHr ≠ c.rtcAddrMin ∧ c.rtcAddrHr ≠ c.rtcAddrSec ∧ c.rtcAddrMin ≠ c.rtcAddrSec)
  && decide (c.lcdLineBase.line1 ≠ c.lcdLineBase.line2 ∧ c.lcdLineBase.line1 ≠ c.lcdLineBase.line3
      ∧ c.lcdLineBase.line2 ≠ c.lcdLineBase.line3)

/-- REFCFG (R9): one assignment of the parameters, "*not* a claim about the original board". Used by `State.reset` and by
tests only (DESIGN CHOICE, log 1; the values R9 marks GK are PRESUMED, log 16). -/
def Config.refcfg : Config where
  nPorts            := 2
  mode              := ⟨⟨true, true, 0⟩, ⟨false, false, 0⟩, ⟨true, true, 0⟩⟩
  csActive          := ⟨true, false, false⟩
  tSetup            := ⟨1, 1, 1⟩
  tHold             := ⟨1, 1, 1⟩
  tSettle           := ⟨2, 2, 2⟩
  tSnsWarmup        := 3
  tLcdPowerup       := 40
  rsCmd             := false
  rsData            := true
  dummyByte         := 0x00
  rtcWriteTag       := true
  rtcAddrHr         := 0x02
  rtcAddrMin        := 0x01
  rtcAddrSec        := 0x00
  lcdInitSeq        := ⟨0x39, 0x39, 0x1E, 0x55, 0x6C, 0x7F, 0x0C, 0x01, 0x06⟩
  lcdLineBase       := ⟨0x80, 0x90, 0xA0⟩
  lcdDrainCmdBefore := true
  bitOrder          := .msbFirst
  arbPolicy         := .fixedLowestPort

end Sys2Proof
end

