-- ==== Sys2Proof/Machine/State.lean ====
section
/-! DEFINITION. The state of the machine as plain data: the block's state of 10_state.md R20, whole; the configuration of
R8; the environment the block acts on (DMEM, the reference peripherals); and the model's own fields, which say what the
agents outside the block do (R13). The events of R12 are recorded in the state. -/

namespace Sys2Proof.Machine

/-- A byte memory: addresses strictly rising, no entry equal to what an unlisted address reads as (`Memory.wf`). -/
abbrev Memory := List Host.Cell

/-- `SPMODE`, the current bus mode (R32, CR0): `DEV` 0 RTC, 1 SNS, 2 LCD, 3 none since reset. -/
structure SpMode where
  dev    : BitVec 2
  cpol   : Bool
  cpha   : Bool
  clksel : BitVec 4
deriving DecidableEq, Repr

/-- The temporaries `T0`..`T3` by number (R21). -/
inductive Temp where
  | t0 | t1 | t2 | t3
deriving DecidableEq, Repr

/-- The four output lines (R37, R38, R137). -/
inductive Line where
  | cs (d : Dev)
  | rs
deriving DecidableEq, Repr

/-- The status of a response (R105). Codes 0x3..0xF are never produced. -/
inductive Status where
  | ok | illegalCommand | badOperand
deriving DecidableEq, Repr

/-- The event alphabet of R12, and the event `Reset` of R270. -/
inductive Event where
  /-- `Cmd(p, w)`: the word `w` is handed to port `p`. -/
  | cmd (p : Port) (w : Word)
  /-- `Rsp(p, r)`: the response word `r` is delivered to port `p`. -/
  | rsp (p : Port) (r : Word)
  /-- `M(dev)`: `SPMODE` is loaded from `MODE[dev]`. -/
  | modeLoad (d : Dev)
  /-- `CS(dev, l)`: the chip-select line is driven to level `l`. -/
  | cs (d : Dev) (level : Bool)
  /-- `RS(l)`: the register-select line is driven to level `l`. -/
  | rs (level : Bool)
  /-- `D(name)`: a timing margin elapses. -/
  | delay (m : Margin)
  /-- `X(out→in)`: a byte exchange. -/
  | exch (out inp : Byte)
  /-- `R(addr→v)`: a DMEM byte is read by the block. -/
  | memRead (addr : Nat) (v : Byte)
  /-- `W(addr, v)`: a DMEM byte is written by the block. -/
  | memWrite (addr : Nat) (v : Byte)
  /-- `Reset` (R270). -/
  | reset
deriving DecidableEq, Repr

/-- Where RTC-ref stands in a transaction (R91). -/
inductive RtcPhase where
  | idle | addr | writeData | readData
deriving DecidableEq, Repr

/-- RTC-ref (R91): 128 byte registers, the internal address, the phase. -/
structure RtcRef where
  reg   : Memory
  ap    : BitVec 7
  phase : RtcPhase
deriving DecidableEq, Repr

/-- SNS-ref (R92): the four bytes the sensor will return, and how many exchanges this transaction has had. -/
structure SnsRef where
  b1 : Byte
  b2 : Byte
  b3 : Byte
  b4 : Byte
  k  : Nat
deriving DecidableEq, Repr

/-- LCD-ref (R93): display memory, its address counter, the command bytes received (oldest first). -/
structure LcdRef where
  ddram  : Memory
  ac     : BitVec 7
  cmdlog : List Byte
deriving DecidableEq, Repr

/-- The reference environment of R90: "**not** part of the block and **not** a description of any real part" (log 4). -/
structure Periph where
  rtc : RtcRef
  sns : SnsRef
  lcd : LcdRef
deriving DecidableEq, Repr

/-- How the environment answers one started exchange (R145, log 5). -/
inductive Answer where
  /-- It completes with this byte: any byte, as the received byte is a free input (R145), an absent device's too (R94). -/
  | byte (b : Byte)
  /-- It completes with the byte the selected reference peripheral supplies (R90). -/
  | reference
  /-- It never completes: the hang (R245), until a reset forgets the exchange (R270). -/
  | never
deriving DecidableEq, Repr

/-- What the outside agents do, in order (R13, log 5). An act that is not a wait happens before the block's next step. -/
inductive Input where
  /-- Wait: the block takes one step of its own first. -/
  | pause
  /-- Wait until port `p` is idle, as a host that issues its next line after the response does (R110). -/
  | await (p : Port)
  /-- `Issue(p, w)` (R148). -/
  | issue (p : Port) (w : Word)
  /-- The DMEM owner writes the byte `v` at `addr` (R13, R287). -/
  | poke (addr v : Byte)
  /-- `Reset` (R270). -/
  | reset
deriving DecidableEq, Repr

/-- A choice no rule fixes (U13): which of the block's enabled steps is next (log 8). -/
inductive Choice where
  /-- The sequencer: the running operation goes on, or a grant is made. -/
  | run
  /-- `Immediate(p)` (R133). -/
  | serve (p : Port)
  /-- `Grant(p)` under `ANY_PENDING` (R132). -/
  | grant (p : Port)
deriving DecidableEq, Repr

/-- The machine's state. -/
structure State where
  /-- The configuration (R8); no step changes it. -/
  cfg : Config
  /-- `port[p].cmd` for `p` in `0..N_PORTS-1` (R26): the list has one entry for each port. -/
  ports : List (Option Word)
  /-- Who owns the bus (R23). -/
  owner : Option Port
  /-- The opcode of the running operation; 0 when none runs (R24). -/
  op : BitVec 4
  /-- How many micro-operations of the running operation have completed (R24). -/
  upc : BitVec 16
  /-- Temporaries (R21). Between operations they keep what the last one left (U4, log 22). -/
  t0 : Byte
  t1 : Byte
  t2 : Byte
  t3 : Byte
  /-- The result accumulator (R22). -/
  res : Data
  /-- The current bus mode (R32). -/
  spmode : SpMode
  /-- The sticky transfer-complete flag (R27). -/
  done : Bool
  /-- A shift is in progress (R28). -/
  busy : Bool
  /-- The last received byte (R29). -/
  rxhold : Byte
  /-- The byte being shifted out (R30). -/
  txbyte : Byte
  /-- Levels of the chip-select lines (R37). -/
  cs : PerDev Bool
  /-- Level of the register-select line (R38). -/
  rs : Bool
  /-- Remaining time of the running `Delay`; 0 when none runs (R39, log 9). -/
  dly : Nat
  /-- DMEM (R61): the environment's, reached through the memory port. -/
  dmem : Memory
  /-- The reference peripherals (R90 to R93): the environment's. -/
  periph : Periph
  /-- The MODEL's own: the port that the block's present step serves (log 5). -/
  serving : Port
  /-- The MODEL's own: what the outside agents will do (log 5). -/
  inputs : List Input
  /-- The MODEL's own: how the environment will answer the coming exchanges (log 5). -/
  rx : List Answer
  /-- The MODEL's own: the open scheduling choices (log 8). -/
  choices : List Choice
  /-- The MODEL's own: the trace of events so far, oldest first (R12, log 15). -/
  trace : List Event
deriving DecidableEq, Repr

/-- Why the machine stops with a fault. None is the spec's: its two command faults are responses (R230, R233), next states
of this model. Each is an assertion that R147, R62 or R43 says cannot fail; no state that meets the invariant raises one, and
stopping there is safe (log 12). -/
inductive Fault where
  /-- Raised by `Shift` outside the contract of R147 (busy, or not exactly the configured device selected). Safe. -/
  | shiftContract
  /-- Raised by `MemRead` and `MemWrite` at an address that DMEM does not have (R61, R62). Safe. -/
  | noSuchAddress (addr : Nat)
  /-- Raised when the bus has an owner whose port holds no command, or a running operation has no next micro-operation
  (R43 item 2, R24). Safe. -/
  | sequencerLost
deriving DecidableEq, Repr

/-- Why the model refuses. -/
inductive Refusal where
  /-- An instruction whose arm has no meaning. No arm uses it: every instruction is modelled. Safe. -/
  | notModelled (mnemonic : String)
  /-- The host's `Issue` on a port that already holds a command: not enabled (R148); treatment `refuse` (U16, log 11).
  Raised by the step of the host, never by an instruction. Safe. -/
  | portBusy (p : Port)
  /-- The host's `Issue` on a port number the block does not have (R26, R130, log 11). Raised by the step of the host. Safe. -/
  | noSuchPort (p : Port)
deriving DecidableEq, Repr

/-- The reference peripherals before anything happened to them (U17 leaves it open: DESIGN CHOICE, log 4). -/
def Periph.initial : Periph where
  rtc := ⟨[], 0, .idle⟩
  sns := ⟨0, 0, 0, 0, 0⟩
  lcd := ⟨[], 0, []⟩

/-- The machine right after reset under a configuration (R42). The registers R42 leaves unspecified hold 0 (DESIGN CHOICE,
log 2); DMEM lists nothing (log 3); nothing is scheduled from outside (log 5). -/
def State.resetOf (c : Config) : State where
  cfg     := c
  ports   := List.replicate c.nPorts none
  owner   := none
  op      := 0
  upc     := 0
  t0      := 0
  t1      := 0
  t2      := 0
  t3      := 0
  res     := 0
  spmode  := ⟨3, false, false, 0⟩
  done    := false
  busy    := false
  rxhold  := 0
  txbyte  := 0
  cs      := ⟨!c.csActive.rtc, !c.csActive.sns, !c.csActive.lcd⟩
  rs      := c.rsCmd
  dly     := 0
  dmem    := []
  periph  := Periph.initial
  serving := 0
  inputs  := []
  rx      := []
  choices := []
  trace   := []

/-- The machine right after reset, under REFCFG (DESIGN CHOICE of the configuration, log 1). -/
def State.reset : State := State.resetOf Config.refcfg

end Sys2Proof.Machine
end

