-- ==== Sys2Proof/Machine/Operands.lean ====
section
/-! DEFINITION. Operand forms and results: the RTC address byte (R171), effective addresses (R63), BCD to decimal (R178),
the sensor reassembly (R193, R194), the response word (R104, R105), and the parameters looked up by name. -/

namespace Sys2Proof.Machine

/-- The device numbers of R8, as `SPMODE.DEV` holds them (R32). -/
def devCode : Dev → BitVec 2
  | .rtc => 0
  | .sns => 1
  | .lcd => 2

/-- The three devices. -/
def allDevs : List Dev := [.rtc, .sns, .lcd]

/-- The lower bound of a named delay (R8, R139). -/
def marginTime (c : Config) : Margin → Nat
  | .setup d => c.tSetup.get d
  | .hold d => c.tHold.get d
  | .settle d => c.tSettle.get d
  | .snsWarmup => c.tSnsWarmup
  | .lcdPowerup => c.tLcdPowerup

/-- `tagW(a) = (RTC_WRITE_TAG << 7) | a[6:0]` (R171): bit 7 of the operand is overridden. -/
def tagW (c : Config) (a : Byte) : Byte := BitVec.ofBool c.rtcWriteTag ++ a.extractLsb' 0 7

/-- `tagR(a) = ((1 - RTC_WRITE_TAG) << 7) | a[6:0]` (R171). -/
def tagR (c : Config) (a : Byte) : Byte := BitVec.ofBool (!c.rtcWriteTag) ++ a.extractLsb' 0 7

/-- Byte `i` of a buffer at `base`: "computed as a natural number with no wrap" (R63). -/
def bufferAddr (base : Byte) (i : Nat) : Nat := base.toNat + i

/-- `tens * 10 + ones` of a byte's nibbles (R178), on every byte; at most 165 (R179). -/
def bcdToDecimal (b : Byte) : Nat := (b.extractLsb' 4 4).toNat * 10 + (b.extractLsb' 0 4).toNat

/-- `hum = x[0][5:0] ++ x[1]` (R193). -/
def humidity (b1 b2 : Byte) : BitVec 14 := b1.extractLsb' 0 6 ++ b2

/-- `temp = x[2] ++ x[3][7:2]` (R193). -/
def temperature (b3 b4 : Byte) : BitVec 14 := b3 ++ b4.extractLsb' 2 6

/-- The result of `SNS_RD`: `hum ++ temp` (R193, R104). -/
def sampleData (b1 b2 b3 b4 : Byte) : Data := humidity b1 b2 ++ temperature b3 b4

/-- The result of `RTC_TIME`: `0b0000 ++ hours ++ minutes ++ seconds` (R177, R104). -/
def timeData (h m s : Byte) : Data := (0 : BitVec 4) ++ h ++ m ++ s

/-- The result of a one-byte read: `zext_28` (R174, R104). -/
def byteData (b : Byte) : Data := b.setWidth 28

/-- The status codes of R105. -/
def statusCode : Status → BitVec 4
  | .ok => 0x0
  | .illegalCommand => 0x1
  | .badOperand => 0x2

/-- The response word `STATUS[31:28] DATA[27:0]` (R104). -/
def responseWord (st : Status) (d : Data) : Word := statusCode st ++ d

/-- The DMEM start addresses of `LCD_DRAW`'s three lines with their base-address command bytes, in the order of R206. -/
def drawLines (c : Config) (buf1 buf2 buf3 : Byte) : List (Byte × Byte) :=
  [(c.lcdLineBase.line1, buf1), (c.lcdLineBase.line2, buf2), (c.lcdLineBase.line3, buf3)]

end Sys2Proof.Machine
end

