-- ==== Sys2Proof/Machine/Flags.lean ====
section
/-! DEFINITION. The two flags `DONE` and `BUSY` (R27, R28) with the registers that change beside them, and the control
registers CR0..CR4 as views of the state (R31 to R36). There are no arithmetic flags (R30's closing paragraph). -/

namespace Sys2Proof.Machine

/-- What `Shift(out)` writes: `TXBYTE <- out; BUSY <- 1; DONE <- 0` (R140). -/
def State.startShift (out : Byte) (s : State) : State := { s with txbyte := out, busy := true, done := false }

/-- What a completion writes: `RXHOLD <- in; BUSY <- 0; DONE <- 1` (R145). -/
def State.finishShift (inp : Byte) (s : State) : State := { s with rxhold := inp, busy := false, done := true }

/-- What taking the received byte writes: `DONE <- 0`; `RXHOLD` keeps its value (R142, R143). -/
def State.clearDone (s : State) : State := { s with done := false }

/-- A device is selected exactly when its line is at its active level (R35). -/
def State.selected (s : State) (d : Dev) : Bool := s.cs.get d == s.cfg.csActive.get d

/-- The device that is selected; at most one is (R37). -/
def State.selectedDev (s : State) : Option Dev := allDevs.find? (fun d => s.selected d)

/-- CR0 `SPMODE`: `[0]` CPHA, `[1]` CPOL, `[7:4]` CLKSEL, `[9:8]` DEV (R31). -/
def cr0 (s : State) : BitVec 10 :=
  s.spmode.dev ++ s.spmode.clksel ++ (0 : BitVec 2) ++ BitVec.ofBool s.spmode.cpol ++ BitVec.ofBool s.spmode.cpha

/-- CR1 `SPSTAT`: `[0]` DONE, `[1]` BUSY (R31, R33). -/
def cr1 (s : State) : BitVec 2 := BitVec.ofBool s.busy ++ BitVec.ofBool s.done

/-- CR2 `RXHOLD` (R31, R34). -/
def cr2 (s : State) : BitVec 8 := s.rxhold

/-- CR3 `LINES`: levels, `[0]` CS[RTC], `[1]` CS[SNS], `[2]` CS[LCD], `[3]` RS (R31, R35). -/
def cr3 (s : State) : BitVec 4 :=
  BitVec.ofBool s.rs ++ BitVec.ofBool s.cs.lcd ++ BitVec.ofBool s.cs.sns ++ BitVec.ofBool s.cs.rtc

/-- `CR4.OWNER`: "the owner's port number when `OWNED = 1`, else 0" (R36). -/
def ownerField : Option Port → BitVec 3
  | some p => BitVec.ofNat 3 p.val
  | none => 0

/-- CR4 `ARB`: `[0]` OWNED, `[3:1]` OWNER, `[7:4]` OP (R31, R36). `op` "reads as 0" while there is no owner (R24). -/
def cr4 (s : State) : BitVec 8 :=
  (if s.owner.isSome then s.op else 0) ++ ownerField s.owner ++ BitVec.ofBool s.owner.isSome

/-- `zext_28(CRn)` for `n` in 0..4 (R31, R221). There is no other register; `CR_RD` faults on another `n` before it reads. -/
def crValue (s : State) (n : Nat) : Data :=
  match n with
  | 0 => (cr0 s).setWidth 28
  | 1 => (cr1 s).setWidth 28
  | 2 => (cr2 s).setWidth 28
  | 3 => (cr3 s).setWidth 28
  | 4 => (cr4 s).setWidth 28
  | _ => 0

end Sys2Proof.Machine
end

