-- ==== Sys2Proof/Machine/Memory.lean ====
section
/-! DEFINITION. Byte memories in one canonical form (R61, R62): used for DMEM, and for the arrays of the reference
peripherals (R91, R93). Only single-byte accesses exist (R62, R70), so no byte order arises. -/

namespace Sys2Proof.Machine

/-- What a byte that nothing has written reads as. The spec gives DMEM no reset value (R42, R61, U17): DESIGN CHOICE,
log 3. -/
def Memory.unlisted : Byte := 0x00

/-- The byte at an address. -/
def Memory.read : Memory → Nat → Byte
  | [], _ => Memory.unlisted
  | (b, x) :: m, a => if a = b then x else Memory.read m a

/-- The memory with `v` at the address, every other byte as before, in canonical form. -/
def Memory.write : Memory → Nat → Byte → Memory
  | [], a, v => if v = Memory.unlisted then [] else [(a, v)]
  | (b, x) :: m, a, v =>
    if a < b then (if v = Memory.unlisted then (b, x) :: m else (a, v) :: (b, x) :: m)
    else if a = b then (if v = Memory.unlisted then m else (a, v) :: m)
    else (b, x) :: Memory.write m a v

/-- The canonical form of a memory of `size` bytes: addresses below `size` and strictly rising, and no entry equal to what
an unlisted address reads as. -/
def Memory.wf (size : Nat) : Memory → Bool
  | [] => true
  | (a, v) :: m =>
    decide (a < size) && decide (v ≠ Memory.unlisted) && m.all (fun c => decide (a < c.1)) && Memory.wf size m

/-- DMEM has 256 bytes, addresses 0x00..0xFF (R61). -/
def dmemSize : Nat := 256

end Sys2Proof.Machine
end

