-- ==== Sys2Proof/Machine/Reference.lean ====
section
/-! DEFINITION. The reference environment of 20_memory.md R90 to R93: three minimal simulated peripherals, "for tests
only". The block's rules never read it; it chooses received bytes only where an answer says `reference` (log 4). -/

namespace Sys2Proof.Machine

/-- RTC-ref at a drive of `CS[RTC]` (R91): becoming active opens a transaction, becoming inactive ends it. -/
def RtcRef.onLine (active level old : Bool) (r : RtcRef) : RtcRef :=
  if level = old then r
  else if level = active then { r with phase := .addr }
  else { r with phase := .idle }

/-- RTC-ref at an exchange (R91): the byte it supplies, and itself afterwards. -/
def RtcRef.exchange (writeTag : Bool) (out : Byte) (r : RtcRef) : Byte × RtcRef :=
  match r.phase with
  | .addr =>
    (0x00, { r with ap := out.extractLsb' 0 7, phase := if out.getLsbD 7 = writeTag then .writeData else .readData })
  | .writeData => (0x00, { r with reg := r.reg.write r.ap.toNat out, ap := r.ap + 1 })
  | .readData => (r.reg.read r.ap.toNat, { r with ap := r.ap + 1 })
  | .idle => (0x00, r)

/-- SNS-ref at a drive of `CS[SNS]` (R92): "A drive of `CS[SNS]` to the level it already has changes nothing". -/
def SnsRef.onLine (active level old : Bool) (r : SnsRef) : SnsRef :=
  if level ≠ old ∧ level = active then { r with k := 0 } else r

/-- `frame[k]` if `k < 4`, else 0x00 (R92). -/
def SnsRef.frameByte (r : SnsRef) : Byte :=
  match r.k with
  | 0 => r.b1
  | 1 => r.b2
  | 2 => r.b3
  | 3 => r.b4
  | _ => 0x00

/-- SNS-ref at an exchange (R92). -/
def SnsRef.exchange (r : SnsRef) : Byte × SnsRef := (r.frameByte, { r with k := r.k + 1 })

/-- LCD-ref at an exchange (R93): a command byte is logged and, with bit 7 set, loads the address counter; a data byte goes
to the display memory. -/
def LcdRef.exchange (isCommand : Bool) (out : Byte) (r : LcdRef) : Byte × LcdRef :=
  if isCommand then
    (0x00, { r with cmdlog := r.cmdlog ++ [out], ac := if out.getLsbD 7 then out.extractLsb' 0 7 else r.ac })
  else (0x00, { r with ddram := r.ddram.write r.ac.toNat out, ac := r.ac + 1 })

/-- The reference peripherals at a drive of a line from level `old` to `level`. -/
def Periph.onLine (c : Config) (l : Line) (old level : Bool) (e : Periph) : Periph :=
  match l with
  | .cs .rtc => { e with rtc := e.rtc.onLine c.csActive.rtc level old }
  | .cs .sns => { e with sns := e.sns.onLine c.csActive.sns level old }
  | .cs .lcd => e
  | .rs => e

/-- "The composite reference environment routes each exchange to the model of the device that is selected at that moment"
(R90). With none selected it supplies 0x00 and nothing changes (log 4). -/
def Periph.exchange (c : Config) (sel : Option Dev) (rs : Bool) (out : Byte) (e : Periph) : Byte × Periph :=
  match sel with
  | some .rtc => let r := e.rtc.exchange c.rtcWriteTag out; (r.1, { e with rtc := r.2 })
  | some .sns => let r := e.sns.exchange; (r.1, { e with sns := r.2 })
  | some .lcd => let r := e.lcd.exchange (rs == c.rsCmd) out; (r.1, { e with lcd := r.2 })
  | none => (0x00, e)

end Sys2Proof.Machine
end

