-- ==== Sys2Proof/Machine/Ops.lean ====
section
/-! DEFINITION. The named operations over the state: ports and responses (R26, R104), taking a fault (R233), grant and
release (R132, R134), the bus lines and the bus mode (R136 to R138), completion of an exchange (R145), DMEM accesses (R62),
and the steps of the agents outside the block: Issue (R148), a DMEM write (R287), Reset (R270). -/

namespace Sys2Proof.Machine

/-- An event is recorded at the end of the trace (R12, R80). -/
def State.emit (e : Event) (s : State) : State := { s with trace := s.trace ++ [e] }

/-- A completed micro-operation does `upc <- upc + 1` (R25). -/
def State.advance (s : State) : State := { s with upc := s.upc + 1 }

/-- The temporary `x[i]` (R21). -/
def State.temp (s : State) : Temp → Byte
  | .t0 => s.t0
  | .t1 => s.t1
  | .t2 => s.t2
  | .t3 => s.t3

/-- `x[i] <- v` (R21). -/
def State.setTemp (i : Temp) (v : Byte) (s : State) : State :=
  match i with
  | .t0 => { s with t0 := v }
  | .t1 => { s with t1 := v }
  | .t2 => { s with t2 := v }
  | .t3 => { s with t3 := v }

/-- `port[p].cmd` (R26); a port the block does not have holds nothing. -/
def State.portCmd (s : State) (p : Port) : Option Word :=
  match s.ports[p.val]? with
  | some c => c
  | none => none

/-- `port[p].cmd <- c` (R26). -/
def State.setPort (p : Port) (c : Option Word) (s : State) : State := { s with ports := s.ports.set p.val c }

/-- `Respond(p, status, data)` (R104): "performs `Rsp(p, status ++ data)` and makes port `p` idle". -/
def State.respond (p : Port) (st : Status) (d : Data) (s : State) : State :=
  (s.setPort p none).emit (.rsp p (responseWord st d))

/-- `RES <- v` (R22). -/
def State.setRes (v : Data) (s : State) : State := { s with res := v }

/-- The `Immediate` step of a command with a result (R133): `RES <- v`, then `Respond(p, OK, RES)`, which copies `RES` into
DATA (R22, R178, R221). The step "changes nothing else" (R133, R43 item 5), so after it `RES` holds again what a running
operation has in it (log 10). -/
def State.answer (v : Data) (s : State) : State :=
  let w := s.setRes v
  (w.respond w.serving .ok w.res).setRes s.res

/-- Taking a command fault, `raise <Fault>(info)` (R233): the command the block is serving is answered with the code and
DATA 0, and nothing else changes. There is no return from a fault: nothing was saved (R235, R236). -/
def State.raise (st : Status) (s : State) : State := s.respond s.serving st 0

/-- `Grant(p)` (R132): `owner <- p; op <- port[p].cmd[31:28]; upc <- 0`, no event. The operation starts with what the last one
left in `T0`..`T3`, `RES`, `TXBYTE` and `dly` (log 22); none reads one of them before it writes it (R21, R42). -/
def State.grant (p : Port) (s : State) : State :=
  { s with owner := some p, op := wordOp ((s.portCmd p).getD 0), upc := 0 }

/-- Release (R134): the `Respond` of a bus operation, and in the same step `owner <- none; op <- 0; upc <- 0`. `T0`..`T3`,
`RES`, `TXBYTE` and `dly` keep what the operation left in them, where U4 allows any value between operations (DESIGN CHOICE,
log 22). -/
def State.release (p : Port) (d : Data) (s : State) : State :=
  { s.respond p .ok d with owner := none, op := 0, upc := 0 }

/-- The level of an output line (R37, R38). -/
def State.level (s : State) : Line → Bool
  | .cs d => s.cs.get d
  | .rs => s.rs

/-- The event of driving a line (R12, R137). -/
def lineEvent : Line → Bool → Event
  | .cs d, l => .cs d l
  | .rs, l => .rs l

/-- `Line(l, level)` (R137): that one line, every other line keeps its level; the event also when nothing changed. The
reference peripherals see the edge (R91, R92). -/
def State.driveLine (l : Line) (level : Bool) (s : State) : State :=
  State.emit (lineEvent l level)
    (match l with
    | .cs d => { s with cs := s.cs.set d level, periph := s.periph.onLine s.cfg l (s.level l) level }
    | .rs => { s with rs := level, periph := s.periph.onLine s.cfg l (s.level l) level })

/-- `Cfg(dev)` (R136): all of `SPMODE` at once (R32). -/
def State.loadMode (d : Dev) (s : State) : State :=
  State.emit (.modeLoad d)
    { s with spmode := ⟨devCode d, (s.cfg.mode.get d).cpol, (s.cfg.mode.get d).cpha, (s.cfg.mode.get d).clksel⟩ }

/-- The contract of `Shift` (R140, R147): the bus has an owner, `BUSY = 0`, and exactly one device is selected, which is the
device whose mode was loaded last. "A model may assert `BUSY = 0` at `Shift`" (R147, log 12). -/
def State.shiftAllowed (s : State) : Bool :=
  s.owner.isSome && !s.busy
  && allDevs.any (fun d =>
      s.selected d && s.spmode.dev == devCode d && allDevs.all (fun e => decide (e = d) || !s.selected e))

/-- What the reference peripherals would supply for the exchange in flight, and themselves after it (R90). -/
def State.referenceReply (s : State) : Byte × Periph :=
  s.periph.exchange s.cfg s.selectedDev s.rs s.txbyte

/-- `Complete(in)` (R145), without its condition `BUSY = 1`. The selected reference peripheral sees the byte shifted out. -/
def State.complete (inp : Byte) (s : State) : State :=
  State.emit (.exch s.txbyte inp) ({ s with periph := s.referenceReply.2 }.finishShift inp)

/-- The environment's next answer, taken: the byte and the answers that remain; nothing while it does not complete the
exchange (R145, R245). Past its listed answers the environment is the reference environment of R90 (DESIGN CHOICE, log 5). -/
def State.nextAnswer (s : State) : Option (Byte × List Answer) :=
  match s.rx with
  | .byte b :: r => some (b, r)
  | .reference :: r => some (s.referenceReply.1, r)
  | .never :: _ => none
  | [] => some (s.referenceReply.1, [])

/-- The step `Issue(p, w)` of a host (R148): enabled iff the port is idle; writes the port and emits `Cmd(p, w)`. Not
enabled, it is refused (U16, log 11). -/
def State.hostIssue (p : Port) (w : Word) (s : State) : Host.Outcome State Fault Refusal :=
  if p.val < s.ports.length then
    match s.portCmd p with
    | none => .next ((s.setPort p (some w)).emit (.cmd p w))
    | some _ => .refused (.portBusy p)
  else .refused (.noSuchPort p)

/-- The DMEM owner writes a byte (R13, R287). It is no event of R12: `W` is the block's (log 15). -/
def State.hostPoke (addr v : Byte) (s : State) : State := { s with dmem := s.dmem.write addr.toNat v }

/-- The reset level of a line (R42): every device deselected, `RS` at `RS_CMD`. -/
def resetLevel (c : Config) : Line → Bool
  | .cs d => !c.csActive.get d
  | .rs => c.rsCmd

/-- The events of the lines whose level a reset changes (R270), in the order RTC, SNS, LCD, RS (log 14). -/
def resetLineEvents (s : State) : List Event :=
  ([.cs .rtc, .cs .sns, .cs .lcd, .rs] : List Line).filterMap (fun l =>
    if s.level l = resetLevel s.cfg l then none else some (lineEvent l (resetLevel s.cfg l)))

/-- The reference peripherals after the lines go to their reset levels (R270). -/
def resetPeriph (s : State) : Periph :=
  ([.cs .rtc, .cs .sns, .cs .lcd, .rs] : List Line).foldl
    (fun e l => e.onLine s.cfg l (s.level l) (resetLevel s.cfg l)) s.periph

/-- `Reset` (R270, R42): the block's state becomes exactly that of R42, pending and running commands are dropped without a
response, and an exchange in flight is forgotten with the answer the environment would have given it. The configuration,
DMEM, the peripherals' contents and what the outside agents will do stay. -/
def State.resetBlock (s : State) : State :=
  { State.resetOf s.cfg with
    dmem    := s.dmem
    periph  := resetPeriph s
    inputs  := s.inputs
    rx      := if s.busy then s.rx.tail else s.rx
    serving := s.serving
    choices := s.choices
    trace   := s.trace ++ .reset :: resetLineEvents s }

end Sys2Proof.Machine
end

