-- ==== Sys2Proof/Machine/Diagnostic.lean ====
section
/-! DEFINITION. The diagnostic register read (44_diagnostic.md): CR_RD. -/

namespace Sys2Proof.Machine

/-- CR_RD (R221): `RES <-` the register's value at this instant, answered by `Immediate` (R133) whoever owns the bus; no side
effect (log 10). BAD_OPERAND on a register that does not exist (R232). -/
def execCrRd (n : Byte) (s : State) : Host.Outcome State Fault Refusal :=
  if crExists n then .next (s.answer (crValue s n.toNat)) else .next (s.raise .badOperand)

end Sys2Proof.Machine
end

