-- ==== Sys2Proof/Machine/Ports.lean ====
section
/-! DEFINITION. Which port the block serves next: the classification of a command word (R148), the commands answered by
`Immediate` (R133), the grant rule (R132), and the choices no rule fixes (U13, log 8). -/

namespace Sys2Proof.Machine

/-- The four classes of a word (R148): "Classification depends on the word alone, never on the state". -/
inductive CmdClass where
  | illegal | badOperand | nonBus | bus
deriving DecidableEq, Repr

/-- "classified once, by `decode` ... and the operand checks" (R148, R234: decoding first). -/
def classify (w : Word) : CmdClass :=
  match decode w with
  | .illegal _ => .illegal
  | .command i => if i.operandsOk then (if i.usesBus then .bus else .nonBus) else .badOperand

/-- Every port number there can be. -/
def allPorts : List Port := List.finRange 8

/-- The lowest-numbered port with a property (R132). -/
def lowestPort (f : Port → Bool) : Option Port := allPorts.find? f

/-- `Immediate(p)` is enabled (R133): the port holds a word that never becomes owner. The owner's port holds the running
operation's word and is not asked. -/
def State.immediatePending (s : State) (p : Port) : Bool :=
  match s.portCmd p with
  | some w => decide (classify w ≠ .bus) && decide (s.owner ≠ some p)
  | none => false

/-- The port holds a bus command (R132). -/
def State.busPending (s : State) (p : Port) : Bool :=
  match s.portCmd p with
  | some w => decide (classify w = .bus)
  | none => false

/-- A port other than `p` has an `Immediate` step enabled. -/
def State.rivalPending (s : State) (p : Port) : Bool := allPorts.any (fun q => decide (q ≠ p) && s.immediatePending q)

/-- The port whose command the sequencer would work on: the owner's, or the one a grant would choose without a choice being
made, the lowest-numbered (R132). -/
def State.busTurn (s : State) : Option Port :=
  match s.owner with
  | some p => some p
  | none => lowestPort s.busPending

/-- The port that the next scheduling choice names, if that step is enabled: `Immediate(p)` (R133), the sequencer, or
`Grant(p)` under `ANY_PENDING` (R132). -/
def State.chosenPort (s : State) : Option Port :=
  match s.choices with
  | .run :: _ => s.busTurn
  | .serve p :: _ => if s.immediatePending p then some p else none
  | .grant p :: _ =>
    if s.owner = none ∧ s.busPending p = true ∧ s.cfg.arbPolicy = .anyPending then some p else none
  | [] => none

/-- The port served when no enabled choice is made: an `Immediate` step if one is enabled, the lowest-numbered port's;
else the sequencer (log 8). -/
def State.defaultPort (s : State) : Option Port :=
  match lowestPort s.immediatePending with
  | some p => some p
  | none => s.busTurn

/-- The port served next, and the state that serves it: one choice is used up. None when the block has nothing to do. -/
def State.turn (s : State) : Option (Port × State) :=
  match (match s.chosenPort with | some p => some p | none => s.defaultPort) with
  | some p => some (p, { s with serving := p, choices := s.choices.tail })
  | none => none

/-- The next input is an act of an outside agent that happens before the block's next step. `pause` is none; `await p` is
one as soon as port `p` is idle (log 5). -/
def State.actDue (s : State) : Bool :=
  match s.inputs with
  | .issue _ _ :: _ => true
  | .poke _ _ :: _ => true
  | .reset :: _ => true
  | .await p :: _ => decide (s.portCmd p = none)
  | .pause :: _ => false
  | [] => false

/-- A step of the block uses up one `pause`, if that is the next input (log 5). -/
def State.tickPause (s : State) : State :=
  match s.inputs with
  | .pause :: r => { s with inputs := r }
  | _ => s

end Sys2Proof.Machine
end

