-- ==== Sys2Proof/Machine/Sequencer.lean ====
section
/-! DEFINITION. The sequencer: the micro-operations of 40_bus_primitive.md part 2 (R136 to R144), the memory primitives
(R62) and the writes of `RES` and `Respond`; the transaction bracket (R146); sequencing (R25); and the life of a bus
operation from grant to response (R149). -/

namespace Sys2Proof.Machine

/-- What a `Shift` sends: a byte fixed at grant, or a temporary (R140, R175, R206). -/
inductive Source where
  | imm (b : Byte)
  | temp (i : Temp)
deriving DecidableEq, Repr

/-- What an operation writes into `RES` (R22): the byte of `RTC_RD`, the three of `RTC_TIME`, the sample of `SNS_RD`. -/
inductive ResultForm where
  | readByte | time | sample
deriving DecidableEq, Repr

/-- The micro-operations (R15, R11). -/
inductive Micro where
  /-- `Cfg(dev)` (R136). -/
  | cfg (d : Dev)
  /-- `Line(l, level)` (R137). -/
  | line (l : Line) (level : Bool)
  /-- `Delay(t)`, by the parameter's name (R139). -/
  | delay (m : Margin)
  /-- `Shift(out)` (R140). -/
  | shift (out : Source)
  /-- `Wait()` (R141). -/
  | wait
  /-- `x[i] <- TakeRx()` (R142). -/
  | takeRx (i : Temp)
  /-- `Drain()` (R143). -/
  | drain
  /-- `x[i] <- MemRead(addr, 1)` (R62). -/
  | memRead (addr : Nat) (i : Temp)
  /-- `MemWrite(addr, 1, x[i])` (R62). -/
  | memWrite (addr : Nat) (i : Temp)
  /-- `RES <- ...` (R22). -/
  | setRes (f : ResultForm)
  /-- `Respond(p, OK, RES)` if true, `Respond(p, OK, 0)` if false, with the release (R134). -/
  | respond (withRes : Bool)
deriving DecidableEq, Repr

/-- The byte a `Shift` sends. -/
def State.source (s : State) : Source → Byte
  | .imm b => b
  | .temp i => s.temp i

/-- The value an operation writes into `RES` (R174, R177, R193). -/
def State.result (s : State) : ResultForm → Data
  | .readByte => byteData s.t0
  | .time => timeData s.t1 s.t2 s.t3
  | .sample => sampleData s.t0 s.t1 s.t2 s.t3

/-- What one step of the sequencer comes to. -/
inductive Tick where
  /-- A step was made (by the sequencer, or by the environment completing the exchange). -/
  | moved (s : State)
  /-- The operation responded and released the bus. -/
  | responded (s : State)
  /-- The micro-operation is not enabled: the sequencer holds (R25). -/
  | holds
  /-- An assertion failed (log 12). -/
  | failed (f : Fault)
deriving DecidableEq, Repr

/-- `Delay(t)` (R139, R39): it begins by loading `dly`, holds while time remains, and completes when it has passed; with
`t = 0` "it completes at once and still emits its event". -/
def State.delayTick (m : Margin) (s : State) : State :=
  if s.dly = 0 ∧ marginTime s.cfg m ≠ 0 then { s with dly := marginTime s.cfg m }
  else (State.emit (.delay m) { s with dly := 0 }).advance

/-- `Wait()` (R141): passes iff `DONE = 1`. While the exchange is in flight the environment may complete it (R145); if it
never does, the sequencer holds for ever (R245). -/
def State.waitTick (s : State) : Tick :=
  if s.done then .moved s.advance
  else if s.busy then
    match s.nextAnswer with
    | some (b, r) => .moved ({ s with rx := r }.complete b)
    | none => .holds
  else .holds

/-- One micro-operation (R136 to R144, R62, R22, R134). -/
def State.microTick (s : State) : Micro → Tick
  | .cfg d => .moved (s.loadMode d).advance
  | .line l level => .moved (s.driveLine l level).advance
  | .delay m => .moved (s.delayTick m)
  | .shift out => if s.shiftAllowed then .moved (s.startShift (s.source out)).advance else .failed .shiftContract
  | .wait => s.waitTick
  | .takeRx i => .moved (s.setTemp i s.rxhold).clearDone.advance
  | .drain => .moved s.clearDone.advance
  | .memRead a i =>
    if a < dmemSize then .moved ((s.setTemp i (s.dmem.read a)).emit (.memRead a (s.dmem.read a))).advance
    else .failed (.noSuchAddress a)
  | .memWrite a i =>
    if a < dmemSize then
      .moved (State.emit (.memWrite a (s.temp i)) { s with dmem := s.dmem.write a (s.temp i) }).advance
    else .failed (.noSuchAddress a)
  | .setRes f => .moved (s.setRes (s.result f)).advance
  | .respond withRes =>
    match s.owner with
    | some p => .responded (s.release p (if withRes then s.res else 0))
    | none => .failed .sequencerLost

/-- The sequencer's step: "the next micro-operation to perform is the one at index `upc`" (R24). -/
def State.seqTick (seq : List Micro) (s : State) : Tick :=
  match seq[s.upc.toNat]? with
  | some m => s.microTick m
  | none => .failed .sequencerLost

/-- The same step on the micro-operations still to be done: "A model may equally hold the *remaining* micro-operations as a
list" (R24). -/
def State.headTick (rest : List Micro) (s : State) : Tick :=
  match rest with
  | m :: _ => s.microTick m
  | [] => .failed .sequencerLost

/-- The micro-operations still to be done after a step from `s` to `t`: one fewer if one completed (R25). -/
def remaining (rest : List Micro) (s t : State) : List Micro := if t.upc = s.upc then rest else rest.tail

/-- The sequencer runs the micro-operations still to be done, until the operation responds, the sequencer holds, or another
agent or port comes first (R133, log 6): an outside agent is due, or (`rival`) another port has an `Immediate` step enabled,
which is the same throughout, since no step of the sequencer but the last changes a port. With `must`, the first step has been
chosen and is made in any case. -/
def runSeq (rival : Bool) : Nat → Bool → List Micro → State → Host.Outcome State Fault Refusal
  | 0, _, _, s => .next s
  | fuel + 1, must, rest, s =>
    if !must && (rival || s.actDue) then .next s
    else
      let s1 := if must then s else s.tickPause
      match s1.headTick rest with
      | .moved t => runSeq rival fuel false (remaining rest s1 t) t
      | .responded t => .next t
      | .holds => .next s
      | .failed f => .fault f

/-- Steps enough for every micro-operation: none takes more than two (a `Delay` begins and ends; an exchange completes and
`Wait` passes). Running out would only stop for now. -/
def fuelFor (seq : List Micro) : Nat := 2 * seq.length + 1

/-- The life of a bus operation (R149): pending, it is granted the free bus (R132) and runs; running, it goes on from `upc`
(R24); while another port owns the bus it waits (R131). -/
def runBus (seq : List Micro) (s : State) : Host.Outcome State Fault Refusal :=
  match s.owner with
  | none => runSeq ((s.grant s.serving).rivalPending s.serving) (fuelFor seq) false seq (s.grant s.serving)
  | some p =>
    if p = s.serving then runSeq (s.rivalPending p) (fuelFor seq) true (seq.drop s.upc.toNat) s else .next s

/-- `Select(dev) = Line(CS[dev], CS_ACTIVE[dev])` (R138). -/
def select (c : Config) (d : Dev) : Micro := .line (.cs d) (c.csActive.get d)

/-- `Deselect(dev) = Line(CS[dev], ~CS_ACTIVE[dev])` (R138). -/
def deselect (c : Config) (d : Dev) : Micro := .line (.cs d) (!c.csActive.get d)

/-- `Begin(dev)` (R146), for a device with no register-select line. -/
def beginTx (c : Config) (d : Dev) : List Micro := [.cfg d, select c d, .delay (.setup d)]

/-- `End(dev)` (R146). -/
def endTx (c : Config) (d : Dev) : List Micro := [.delay (.hold d), deselect c d, .delay (.settle d)]

/-- `Xchg(out)` (R144). -/
def xchg (out : Source) : List Micro := [.shift out, .wait]

/-- `x[i] <- XchgTake(out)` (R144). -/
def xchgTake (out : Source) (i : Temp) : List Micro := [.shift out, .wait, .takeRx i]

end Sys2Proof.Machine
end

