-- ==== Sys2Proof/Machine/Lcd.lean ====
section
/-! DEFINITION. The LCD family (43_lcd.md): LCD_CMD, LCD_DAT, LCD_INIT, LCD_DRAW. -/

namespace Sys2Proof.Machine

/-- `LcdByte(level, byte, drainBefore)` (R200): one byte, one transaction, always ten micro-operations. -/
def lcdByte (c : Config) (level : Bool) (byte : Source) (drainBefore : Bool) : List Micro :=
  [.cfg .lcd, .line .rs level, select c .lcd, .delay (.setup .lcd)]
    ++ (if drainBefore then .drain :: xchg byte else xchg byte ++ [.drain])
    ++ endTx c .lcd

/-- A command byte: `RS_CMD`, drained as `LCD_DRAIN_CMD_BEFORE` says (R201, R202). -/
def lcdCommandByte (c : Config) (byte : Source) : List Micro := lcdByte c c.rsCmd byte c.lcdDrainCmdBefore

/-- A data byte: `RS_DATA`, drained the other way round (R201, R202). -/
def lcdDataByte (c : Config) (byte : Source) : List Micro := lcdByte c c.rsData byte (!c.lcdDrainCmdBefore)

/-- The micro-sequence of R203. -/
def lcdCmdSeq (c : Config) (byte : Byte) : List Micro := lcdCommandByte c (.imm byte) ++ [.respond false]

/-- LCD_CMD (R203): send one command byte. -/
def execLcdCmd (byte : Byte) (s : State) : Host.Outcome State Fault Refusal := runBus (lcdCmdSeq s.cfg byte) s

/-- The micro-sequence of R204. -/
def lcdDatSeq (c : Config) (byte : Byte) : List Micro := lcdDataByte c (.imm byte) ++ [.respond false]

/-- LCD_DAT (R204): send one data byte. -/
def execLcdDat (byte : Byte) (s : State) : Host.Outcome State Fault Refusal := runBus (lcdDatSeq s.cfg byte) s

/-- The micro-sequence of R205: the power-up delay, then all nine commands in order. -/
def lcdInitSeq (c : Config) : List Micro :=
  .delay .lcdPowerup :: c.lcdInitSeq.toList.flatMap (fun b => lcdCommandByte c (.imm b)) ++ [.respond false]

/-- LCD_INIT (R205): initialise the display. -/
def execLcdInit (s : State) : Host.Outcome State Fault Refusal := runBus (lcdInitSeq s.cfg) s

/-- One line of R206: its base-address command, then sixteen characters, each "read from DMEM immediately before the
transaction that sends it". -/
def drawLine (c : Config) (line : Byte × Byte) : List Micro :=
  lcdCommandByte c (.imm line.1)
    ++ (List.range 16).flatMap (fun k => .memRead (bufferAddr line.2 k) .t0 :: lcdDataByte c (.temp .t0))

/-- The micro-sequence of R206. -/
def lcdDrawSeq (c : Config) (buf1 buf2 buf3 : Byte) : List Micro :=
  (drawLines c buf1 buf2 buf3).flatMap (drawLine c) ++ [.respond false]

/-- LCD_DRAW (R206): paint the three lines; BAD_OPERAND on a failed operand check (R232). -/
def execLcdDraw (buf1 buf2 buf3 : Byte) (s : State) : Host.Outcome State Fault Refusal :=
  if lineInDmem buf1 && lineInDmem buf2 && lineInDmem buf3 then runBus (lcdDrawSeq s.cfg buf1 buf2 buf3) s
  else .next (s.raise .badOperand)

end Sys2Proof.Machine
end

