-- ==== Sys2Proof/Machine/Rtc.lean ====
section
/-! DEFINITION. The RTC family (41_rtc.md): RTC_WR, RTC_RD, RTC_BWR, RTC_BRD, RTC_TIME, FMT_TIME. -/

namespace Sys2Proof.Machine

/-- The micro-sequence of R173. -/
def rtcWrSeq (c : Config) (addr value : Byte) : List Micro :=
  beginTx c .rtc ++ xchg (.imm (tagW c addr)) ++ xchg (.imm value) ++ endTx c .rtc ++ [.respond false]

/-- RTC_WR (R173): write one RTC register. -/
def execRtcWr (addr value : Byte) (s : State) : Host.Outcome State Fault Refusal :=
  runBus (rtcWrSeq s.cfg addr value) s

/-- One single-register read transaction (R174, R177), the byte taken into a temporary. -/
def rtcReadTx (c : Config) (addr : Byte) (i : Temp) : List Micro :=
  beginTx c .rtc ++ xchg (.imm (tagR c addr)) ++ xchgTake (.imm c.dummyByte) i ++ endTx c .rtc

/-- The micro-sequence of R174. -/
def rtcRdSeq (c : Config) (addr : Byte) : List Micro :=
  rtcReadTx c addr .t0 ++ [.setRes .readByte, .respond true]

/-- RTC_RD (R174): read one RTC register. -/
def execRtcRd (addr : Byte) (s : State) : Host.Outcome State Fault Refusal := runBus (rtcRdSeq s.cfg addr) s

/-- The loop body of R175: "Each DMEM byte is read immediately before it is shifted". -/
def blockWriteByte (buf : Byte) (i : Nat) : List Micro := .memRead (bufferAddr buf i) .t0 :: xchg (.temp .t0)

/-- The micro-sequence of R175. -/
def rtcBwrSeq (c : Config) (buf startAddr count : Byte) : List Micro :=
  beginTx c .rtc ++ xchg (.imm (tagW c startAddr)) ++ (List.range count.toNat).flatMap (blockWriteByte buf)
    ++ endTx c .rtc ++ [.respond false]

/-- RTC_BWR (R175): write `count` consecutive RTC registers from DMEM; BAD_OPERAND on a failed operand check (R232). -/
def execRtcBwr (buf startAddr count : Byte) (s : State) : Host.Outcome State Fault Refusal :=
  if blockInDmem buf count then runBus (rtcBwrSeq s.cfg buf startAddr count) s else .next (s.raise .badOperand)

/-- The loop body of R176: "Each received byte is written to DMEM before the next exchange starts". -/
def blockReadByte (c : Config) (buf : Byte) (i : Nat) : List Micro :=
  xchgTake (.imm c.dummyByte) .t0 ++ [.memWrite (bufferAddr buf i) .t0]

/-- The micro-sequence of R176. -/
def rtcBrdSeq (c : Config) (buf startAddr count : Byte) : List Micro :=
  beginTx c .rtc ++ xchg (.imm (tagR c startAddr)) ++ (List.range count.toNat).flatMap (blockReadByte c buf)
    ++ endTx c .rtc ++ [.respond false]

/-- RTC_BRD (R176): read `count` consecutive RTC registers into DMEM; BAD_OPERAND on a failed operand check (R232). -/
def execRtcBrd (buf startAddr count : Byte) (s : State) : Host.Outcome State Fault Refusal :=
  if blockInDmem buf count then runBus (rtcBrdSeq s.cfg buf startAddr count) s else .next (s.raise .badOperand)

/-- A 7-bit register number as an untagged address byte (R8, R171). -/
def registerByte (n : BitVec 7) : Byte := n.setWidth 8

/-- The micro-sequence of R177: hours, minutes, seconds, "in this order". -/
def rtcTimeSeq (c : Config) : List Micro :=
  rtcReadTx c (registerByte c.rtcAddrHr) .t1 ++ rtcReadTx c (registerByte c.rtcAddrMin) .t2
    ++ rtcReadTx c (registerByte c.rtcAddrSec) .t3 ++ [.setRes .time, .respond true]

/-- RTC_TIME (R177): read the time in three transactions. -/
def execRtcTime (s : State) : Host.Outcome State Fault Refusal := runBus (rtcTimeSeq s.cfg) s

/-- FMT_TIME (R178): `RES <- zext_28(tens * 10 + ones)`, answered by `Immediate` (R133): no ownership, no bus event, and
nothing else changes, what a running operation has in `RES` not either (log 10). -/
def execFmtTime (bcd : Byte) (s : State) : Host.Outcome State Fault Refusal :=
  .next (s.answer (BitVec.ofNat 28 (bcdToDecimal bcd)))

end Sys2Proof.Machine
end

