-- ==== Sys2Proof/Machine/Sensor.lean ====
section
/-! DEFINITION. The sensor family (42_sensor.md): SNS_CFG, SNS_RD. -/

namespace Sys2Proof.Machine

/-- The micro-sequence of R192. -/
def snsCfgSeq : List Micro := [.cfg .sns, .drain, .respond false]

/-- SNS_CFG (R192): load the sensor's bus mode and discard one stale byte. -/
def execSnsCfg (s : State) : Host.Outcome State Fault Refusal := runBus snsCfgSeq s

/-- The micro-sequence of R193, with R191's framing: `Select(SNS)` before each of the four exchanges, one `Deselect`, and
the warm-up delay after the first byte only. -/
def snsRdSeq (c : Config) : List Micro :=
  [.cfg .sns, select c .sns, .delay (.setup .sns)] ++ xchgTake (.imm c.dummyByte) .t0 ++ [.delay .snsWarmup]
    ++ select c .sns :: xchgTake (.imm c.dummyByte) .t1
    ++ select c .sns :: xchgTake (.imm c.dummyByte) .t2
    ++ select c .sns :: xchgTake (.imm c.dummyByte) .t3
    ++ endTx c .sns ++ [.setRes .sample, .respond true]

/-- SNS_RD (R193): read one sample, two raw 14-bit values. -/
def execSnsRd (s : State) : Host.Outcome State Fault Refusal := runBus (snsRdSeq s.cfg) s

end Sys2Proof.Machine
end

