-- ==== Sys2Proof/Machine/Dispatch.lean ====
section
/-! DEFINITION. The meaning of every command: one arm per constructor of Instr (R101). -/

namespace Sys2Proof.Machine

def exec (i : Instr) (s : State) : Host.Outcome State Fault Refusal :=
  match i with
  | .rtcWr addr value => Sys2Proof.Machine.execRtcWr addr value s
  | .rtcRd addr => Sys2Proof.Machine.execRtcRd addr s
  | .rtcBwr buf startAddr count => Sys2Proof.Machine.execRtcBwr buf startAddr count s
  | .rtcBrd buf startAddr count => Sys2Proof.Machine.execRtcBrd buf startAddr count s
  | .rtcTime => Sys2Proof.Machine.execRtcTime s
  | .fmtTime bcd => Sys2Proof.Machine.execFmtTime bcd s
  | .snsCfg => Sys2Proof.Machine.execSnsCfg s
  | .snsRd => Sys2Proof.Machine.execSnsRd s
  | .lcdCmd byte => Sys2Proof.Machine.execLcdCmd byte s
  | .lcdDat byte => Sys2Proof.Machine.execLcdDat byte s
  | .lcdInit => Sys2Proof.Machine.execLcdInit s
  | .lcdDraw buf1 buf2 buf3 => Sys2Proof.Machine.execLcdDraw buf1 buf2 buf3 s
  | .crRd n => Sys2Proof.Machine.execCrRd n s

end Sys2Proof.Machine
end

