-- ==== Sys2Proof/Machine/Serve.lean ====
section
/-! DEFINITION. One step of the machine: of an outside agent if one is due, else of the block (R13). Step.lean calls it. -/

namespace Sys2Proof.Machine

/-- The block serves the port its turn falls to: the word the port holds is decoded (R107); an illegal one is answered with
ILLEGAL_COMMAND (R231), any other runs. With nothing to do the block is idle and nothing changes (R272). -/
def State.serve (s : State) : Host.Outcome State Fault Refusal :=
  match s.turn with
  | none => .next s
  | some (p, t) =>
    match t.portCmd p with
    | none => .fault .sequencerLost
    | some w =>
      match decode w with
      | .illegal _ => .next (t.raise .illegalCommand)
      | .command i => exec i t

/-- One step: an act of an outside agent when it is due (R148, R287, R270), else a step of the block. -/
def State.stepOnce (s : State) : Host.Outcome State Fault Refusal :=
  match s.inputs with
  | .issue p w :: r => State.hostIssue p w { s with inputs := r }
  | .poke addr v :: r => .next (State.hostPoke addr v { s with inputs := r })
  | .reset :: r => .next (State.resetBlock { s with inputs := r })
  | .await p :: r => if s.portCmd p = none then .next { s with inputs := r } else s.serve
  | .pause :: r => State.serve { s with inputs := r }
  | [] => s.serve

/-- The word of an instruction's bits, placed where the block takes its next command: on port 0, with nothing scheduled
before it, no other command pending, and the bus free as R43 item 1 says a free bus is (log 5). -/
def State.placeWord (w : Word) (s : State) : State :=
  { s with
    ports   := some w :: s.ports.tail.map (fun _ => none)
    owner   := none
    op      := 0
    upc     := 0
    busy    := false
    cs      := ⟨!s.cfg.csActive.rtc, !s.cfg.csActive.sns, !s.cfg.csActive.lcd⟩
    dly     := 0
    serving := 0
    inputs  := []
    choices := [] }

end Sys2Proof.Machine
end

