-- ==== Sys2Proof/Machine/Step.lean ====
section
/-! DEFINITION. The step function, and the state that fetches a given command next. -/

namespace Sys2Proof.Machine

/-- One step of the machine (R13). -/
def step (s : State) : Host.Outcome State Fault Refusal := s.stepOnce

/-- The state with the command of a table row's bits handed to the block, so that the next step runs it (log 5). -/
def State.withFetchWord (s : State) (nbits w : Nat) : State := s.placeWord (BitVec.ofNat 32 (w % 2 ^ nbits))

end Sys2Proof.Machine
end

