-- ==== Sys2Proof/Machine/Assembler.lean ====
section
/-! DEFINITION. The textual form of commands: 30_encoding.md R110 (lines), R111 (encoding, operand width) and R112
(pseudo-commands and the symbolic names). It describes the programs of 95_test_vectors.md and is no part of the block.
What R110 does not say (white space, the error an ill-formed line meets) is a DESIGN CHOICE, log 18. -/

namespace Sys2Proof.Machine

/-- Why a line does not assemble. -/
inductive AsmError where
  | badPort
  | unknownMnemonic (name : String)
  | badOperand (text : String)
  /-- "An operand that does not fit in 8 bits is an assembly error, not a truncation" (R111). -/
  | tooWide (value : Nat)
  | wrongOperands
  /-- `LCD_DRAW48 b` with `b` above 208 (R112). -/
  | bufferTooHigh (value : Nat)
deriving DecidableEq, Repr

/-- The tokens of a line. -/
inductive Token where
  | word (cs : List Char)
  | comma
  | gap
deriving DecidableEq, Repr

/-- One character in front of the tokens already read from the right. -/
def lexChar (c : Char) (ts : List Token) : List Token :=
  if c = ' ' ∨ c = '\t' then .gap :: ts
  else if c = ',' then .comma :: ts
  else
    match ts with
    | .word w :: r => .word (c :: w) :: r
    | _ => .word [c] :: ts

/-- The tokens of a line: its comment dropped, white space only separates (R110). -/
def lexLine (line : String) : List Token :=
  ((line.toList.takeWhile (fun c => c != ';')).foldr lexChar []).filter (fun t => t != .gap)

/-- The value of a digit in a base, if it is one. -/
def digitValue (base : Nat) (c : Char) : Option Nat :=
  let n := c.toNat
  let v :=
    if 48 ≤ n ∧ n ≤ 57 then n - 48
    else if 97 ≤ n ∧ n ≤ 102 then n - 87
    else if 65 ≤ n ∧ n ≤ 70 then n - 55
    else base
  if v < base then some v else none

/-- The value of a string of digits, most significant first. -/
def digitsValue (base : Nat) : Nat → List Char → Option Nat
  | acc, [] => some acc
  | acc, c :: cs =>
    match digitValue base c with
    | some v => digitsValue base (acc * base + v) cs
    | none => none

/-- A number "in decimal or `0x` hexadecimal" (R110). -/
def numberValue (cs : List Char) : Option Nat :=
  match cs with
  | '0' :: 'x' :: d :: ds => digitsValue 16 0 (d :: ds)
  | c :: _ => if c.isDigit then digitsValue 10 0 cs else none
  | [] => none

/-- `(RTC_WRITE_TAG << 7) | RTC_ADDR_HR`, the document's `HR_WT` (R112). -/
def hrWt (c : Config) : Byte := tagW c (c.rtcAddrHr.setWidth 8)

/-- `((1 - RTC_WRITE_TAG) << 7) | RTC_ADDR_HR`, the document's `HR_RD` (R112). -/
def hrRd (c : Config) : Byte := tagR c (c.rtcAddrHr.setWidth 8)

/-- The numeric parameter names of R8 with their values, and the two symbolic names of R112. -/
def parameterNames (c : Config) : List (String × Nat) :=
  [("HR_WT", (hrWt c).toNat), ("HR_RD", (hrRd c).toNat),
   ("RTC_ADDR_HR", c.rtcAddrHr.toNat), ("RTC_ADDR_MIN", c.rtcAddrMin.toNat), ("RTC_ADDR_SEC", c.rtcAddrSec.toNat),
   ("DUMMY_BYTE", c.dummyByte.toNat), ("RTC_WRITE_TAG", c.rtcWriteTag.toNat),
   ("RS_CMD", c.rsCmd.toNat), ("RS_DATA", c.rsData.toNat), ("N_PORTS", c.nPorts),
   ("LCD_LINE_BASE[0]", c.lcdLineBase.line1.toNat), ("LCD_LINE_BASE[1]", c.lcdLineBase.line2.toNat),
   ("LCD_LINE_BASE[2]", c.lcdLineBase.line3.toNat),
   ("LCD_INIT_SEQ[0]", c.lcdInitSeq.functionSet1.toNat), ("LCD_INIT_SEQ[1]", c.lcdInitSeq.functionSet2.toNat),
   ("LCD_INIT_SEQ[2]", c.lcdInitSeq.bias.toNat), ("LCD_INIT_SEQ[3]", c.lcdInitSeq.power.toNat),
   ("LCD_INIT_SEQ[4]", c.lcdInitSeq.follower.toNat), ("LCD_INIT_SEQ[5]", c.lcdInitSeq.contrast.toNat),
   ("LCD_INIT_SEQ[6]", c.lcdInitSeq.displayOn.toNat), ("LCD_INIT_SEQ[7]", c.lcdInitSeq.clear.toNat),
   ("LCD_INIT_SEQ[8]", c.lcdInitSeq.entryMode.toNat),
   ("CS_ACTIVE[RTC]", c.csActive.rtc.toNat), ("CS_ACTIVE[SNS]", c.csActive.sns.toNat),
   ("CS_ACTIVE[LCD]", c.csActive.lcd.toNat),
   ("T_SETUP[RTC]", c.tSetup.rtc), ("T_SETUP[SNS]", c.tSetup.sns), ("T_SETUP[LCD]", c.tSetup.lcd),
   ("T_HOLD[RTC]", c.tHold.rtc), ("T_HOLD[SNS]", c.tHold.sns), ("T_HOLD[LCD]", c.tHold.lcd),
   ("T_SETTLE[RTC]", c.tSettle.rtc), ("T_SETTLE[SNS]", c.tSettle.sns), ("T_SETTLE[LCD]", c.tSettle.lcd),
   ("T_SNS_WARMUP", c.tSnsWarmup), ("T_LCD_POWERUP", c.tLcdPowerup)]

/-- An operand: a number, or a parameter name (R110). -/
def operandValue (c : Config) (cs : List Char) : Except AsmError Nat :=
  match numberValue cs with
  | some n => .ok n
  | none =>
    match (parameterNames c).find? (fun e => e.1 == String.ofList cs) with
    | some e => .ok e.2
    | none => .error (.badOperand (String.ofList cs))

/-- Operands separated by commas (R110). -/
def operandList (c : Config) : List Token → Except AsmError (List Nat)
  | [] => .ok []
  | [.word cs] =>
    match operandValue c cs with
    | .ok n => .ok [n]
    | .error e => .error e
  | .word cs :: .comma :: .word ds :: r =>
    match operandValue c cs, operandList c (.word ds :: r) with
    | .ok n, .ok ns => .ok (n :: ns)
    | .error e, _ => .error e
    | _, .error e => .error e
  | _ => .error .wrongOperands

/-- An operand as a byte: it must fit (R111). -/
def operandByte (n : Nat) : Except AsmError Byte := if n < 256 then .ok (BitVec.ofNat 8 n) else .error (.tooWide n)

/-- A command of one operand. -/
def asm1 (f : Byte → Instr) (ns : List Nat) : Except AsmError Instr :=
  match ns with
  | [n] => match operandByte n with | .ok b => .ok (f b) | .error e => .error e
  | _ => .error .wrongOperands

/-- A command of two operands. -/
def asm2 (f : Byte → Byte → Instr) (ns : List Nat) : Except AsmError Instr :=
  match ns with
  | n :: r => match operandByte n with | .ok b => asm1 (f b) r | .error e => .error e
  | [] => .error .wrongOperands

/-- A command of three operands. -/
def asm3 (f : Byte → Byte → Byte → Instr) (ns : List Nat) : Except AsmError Instr :=
  match ns with
  | n :: r => match operandByte n with | .ok b => asm2 (f b) r | .error e => .error e
  | [] => .error .wrongOperands

/-- A command of no operands. -/
def asm0 (i : Instr) (ns : List Nat) : Except AsmError Instr :=
  match ns with
  | [] => .ok i
  | _ :: _ => .error .wrongOperands

/-- `LCD_DRAW48 b` (R112): `LCD_DRAW b, b+16, b+32`, with `b ≤ 208`. -/
def asmDraw48 (ns : List Nat) : Except AsmError Instr :=
  match ns with
  | [n] =>
    if n ≤ 208 then .ok (.lcdDraw (BitVec.ofNat 8 n) (BitVec.ofNat 8 (n + 16)) (BitVec.ofNat 8 (n + 32)))
    else .error (.bufferTooHigh n)
  | _ => .error .wrongOperands

/-- The mnemonics of R110 and the pseudo-commands of R112. -/
def mnemonicTable (c : Config) : List (String × (List Nat → Except AsmError Instr)) :=
  [("RTC_WR", asm2 .rtcWr), ("RTC_RD", asm1 .rtcRd), ("RTC_BWR", asm3 .rtcBwr), ("RTC_BRD", asm3 .rtcBrd),
   ("RTC_TIME", asm0 .rtcTime), ("FMT_TIME", asm1 .fmtTime), ("SNS_CFG", asm0 .snsCfg), ("SNS_RD", asm0 .snsRd),
   ("LCD_CMD", asm1 .lcdCmd), ("LCD_DAT", asm1 .lcdDat), ("LCD_INIT", asm0 .lcdInit), ("LCD_DRAW", asm3 .lcdDraw),
   ("CR_RD", asm1 .crRd), ("LCD_DRAW48", asmDraw48),
   ("RTC_WR_HR", asm1 (.rtcWr (c.rtcAddrHr.setWidth 8))), ("RTC_WR_MIN", asm1 (.rtcWr (c.rtcAddrMin.setWidth 8))),
   ("RTC_WR_SEC", asm1 (.rtcWr (c.rtcAddrSec.setWidth 8))), ("RTC_RD_HR", asm0 (.rtcRd (c.rtcAddrHr.setWidth 8))),
   ("RTC_RD_MIN", asm0 (.rtcRd (c.rtcAddrMin.setWidth 8))), ("RTC_RD_SEC", asm0 (.rtcRd (c.rtcAddrSec.setWidth 8)))]

/-- The command of a line without its port. -/
def asmCommand (c : Config) (ts : List Token) : Except AsmError Instr :=
  match ts with
  | .word m :: r =>
    match (mnemonicTable c).find? (fun e => e.1 == String.ofList m), operandList c r with
    | some e, .ok ns => e.2 ns
    | some _, .error e => .error e
    | none, _ => .error (.unknownMnemonic (String.ofList m))
  | _ => .error .wrongOperands

/-- `pN:` in front of a line: the port's number, if the token has that form (R110). -/
def portToken (cs : List Char) : Option (Option Nat) :=
  match cs with
  | 'p' :: r =>
    match r.reverse with
    | ':' :: ds => some (if ds.isEmpty then none else digitsValue 10 0 ds.reverse)
    | _ => none
  | _ => none

/-- A line of a program (R110): the port (0 where none is named) and the command; nothing for an empty line. -/
def assembleLine (c : Config) (line : String) : Except AsmError (Option (Port × Instr)) :=
  match lexLine line with
  | [] => .ok none
  | .word cs :: r =>
    match portToken cs with
    | some (some n) =>
      if n < c.nPorts ∧ n < 8 then
        match asmCommand c r with
        | .ok i => .ok (some (Fin.ofNat 8 n, i))
        | .error e => .error e
      else .error .badPort
    | some none => .error .badPort
    | none =>
      match asmCommand c (.word cs :: r) with
      | .ok i => .ok (some (0, i))
      | .error e => .error e
  | _ => .error .wrongOperands

/-- A program's commands with their ports, in the order of its lines; the error of its first line that does not assemble. -/
def assembleProgram (c : Config) : List String → Except AsmError (List (Port × Instr))
  | [] => .ok []
  | l :: ls =>
    match assembleLine c l, assembleProgram c ls with
    | .error e, _ => .error e
    | .ok _, .error e => .error e
    | .ok none, .ok r => .ok r
    | .ok (some x), .ok r => .ok (x :: r)

/-- The next command of a port, and the commands that remain: "the next line of the same port" (R110). -/
def takeLine (p : Port) : List (Port × Instr) → Option (Instr × List (Port × Instr))
  | [] => none
  | (q, i) :: r =>
    if q = p then some (i, r)
    else
      match takeLine p r with
      | some (j, r') => some (j, (q, i) :: r')
      | none => none

/-- "A line is issued when its port is idle" (R110): the host waits for its own port, and for no other. An idle port is one
whose previous command has had its response (R26). -/
def issueLine (p : Port) (i : Instr) : List Input := [.await p, .issue p (encode i)]

/-- What the hosts do, given which port issues next and after how many steps of the block. R110 orders the lines of one port
only: between ports and in time every order is some schedule's. A turn of a port with no line left does nothing; a line
that gets no turn is not issued. -/
def hostInputs : List (Port × Nat) → List (Port × Instr) → List Input
  | [], _ => []
  | (p, n) :: sched, ls =>
    match takeLine p ls with
    | some (i, r) => List.replicate n .pause ++ issueLine p i ++ hostInputs sched r
    | none => hostInputs sched ls

/-- The schedule that takes the lines in the order of the text, each as soon as its port is idle. -/
def textOrder (ls : List (Port × Instr)) : List (Port × Nat) := ls.map (fun l => (l.1, 0))

/-- The acts of hosts that run a program under a schedule (R110). -/
def programInputs (c : Config) (sched : List (Port × Nat)) (lines : List String) : Except AsmError (List Input) :=
  match assembleProgram c lines with
  | .ok ls => .ok (hostInputs sched ls)
  | .error e => .error e

end Sys2Proof.Machine
end

