-- ==== Sys2Proof/Machine/Sequences.lean ====
section
/-! DEFINITION. The micro-sequence of every bus command in one place (R24: "the pseudocode of the operation's rule with its
loops unrolled"). The meanings use the sequences one by one; this table is for statements about all of them. -/

namespace Sys2Proof.Machine

/-- The micro-sequence of a command; a command that never becomes owner has none (R133, R296: 0 micro-operations). -/
def microSeq (c : Config) : Instr → List Micro
  | .rtcWr addr value => rtcWrSeq c addr value
  | .rtcRd addr => rtcRdSeq c addr
  | .rtcBwr buf startAddr count => rtcBwrSeq c buf startAddr count
  | .rtcBrd buf startAddr count => rtcBrdSeq c buf startAddr count
  | .rtcTime => rtcTimeSeq c
  | .fmtTime _ => []
  | .snsCfg => snsCfgSeq
  | .snsRd => snsRdSeq c
  | .lcdCmd byte => lcdCmdSeq c byte
  | .lcdDat byte => lcdDatSeq c byte
  | .lcdInit => lcdInitSeq c
  | .lcdDraw buf1 buf2 buf3 => lcdDrawSeq c buf1 buf2 buf3
  | .crRd _ => []

end Sys2Proof.Machine
end

