-- ==== Sys2Proof/WellFormed.lean ====
section
/-! DEFINITION. A well-formed command is one that passes the operand checks of 60_exceptions.md R232. A command that fails
one is not an encoding error (R103): it decodes, and is answered with BAD_OPERAND. -/

namespace Sys2Proof

/-- The command passes the operand checks of R232. Every field already has its width by its type. -/
def Instr.wellFormed (i : Instr) : Bool := i.operandsOk

end Sys2Proof
end

