-- ==== Sys2Proof/Safety.lean ====
section
/-! DEFINITION. What counts as a safe run, in the terms the claims use: quiescence and the hang (R14, R245), the invariants
of R43 and R37 with what makes them inductive, the contract of a micro-sequence (R147), and the states from which a command
executes normally. -/

namespace Sys2Proof.Machine

/-- Every device is deselected (R35, R37). -/
def State.allDeselected (s : State) : Bool := allDevs.all (fun d => !s.selected d)

/-- At most one device is selected (R37, R43 item 3). -/
def State.atMostOneSelected (s : State) : Bool :=
  allDevs.all (fun d => allDevs.all (fun e => decide (d = e) || !(s.selected d && s.selected e)))

/-- Quiescence (R14): "no port has a pending command, `owner = none`, `BUSY = 0` and every chip-select line is at its
inactive level". -/
def State.quiescent (s : State) : Bool :=
  s.ports.all (fun c => c.isNone) && s.owner.isNone && !s.busy && s.allDeselected

/-- The next micro-operation of a micro-sequence is a `Wait()`. -/
def atWait (ms : List Micro) : Bool :=
  match ms with
  | .wait :: _ => true
  | _ => false

/-- The next micro-operation of a micro-sequence is a `Delay`. -/
def atDelay (ms : List Micro) : Bool :=
  match ms with
  | .delay _ :: _ => true
  | _ => false

/-- The device whose mode was loaded last, none since reset (R32). -/
def State.modeDev (s : State) : Option Dev := allDevs.find? (fun d => s.spmode.dev == devCode d)

/-- The micro-operations still to be done keep the contract of R147 and leave the bus as R43 item 1 asks, when they start
with device `sel` selected, the mode of `mode` loaded, and (`shifting`) an exchange started and not yet waited for:
`Cfg` and `RS` only while nothing is selected (R136, R201), `Select` only while no other device is (R138), `Shift` only with
exactly the configured device selected (R147), every `Shift` followed by its `Wait` (R144), DMEM addresses below 256 (R62),
and `Respond` last, with everything deselected (R134). -/
def keepsContract (c : Config) : Option Dev → Option Dev → Bool → List Micro → Bool
  | _, _, _, [] => false
  | sel, _, shifting, .cfg d :: ms => !shifting && sel.isNone && keepsContract c sel (some d) false ms
  | sel, mode, shifting, .line (.cs d) level :: ms =>
    !shifting &&
    (if level = c.csActive.get d then decide (sel = none ∨ sel = some d) && keepsContract c (some d) mode false ms
     else keepsContract c (if sel = some d then none else sel) mode false ms)
  | sel, mode, shifting, .line .rs _ :: ms => !shifting && sel.isNone && keepsContract c sel mode false ms
  | sel, mode, shifting, .delay _ :: ms => !shifting && keepsContract c sel mode false ms
  | sel, mode, shifting, .shift _ :: ms =>
    !shifting && sel.isSome && decide (sel = mode) && atWait ms && keepsContract c sel mode true ms
  | sel, mode, shifting, .wait :: ms => shifting && sel.isSome && keepsContract c sel mode false ms
  | sel, mode, shifting, .takeRx _ :: ms => !shifting && keepsContract c sel mode false ms
  | sel, mode, shifting, .drain :: ms => !shifting && keepsContract c sel mode false ms
  | sel, mode, shifting, .memRead a _ :: ms => !shifting && decide (a < dmemSize) && keepsContract c sel mode false ms
  | sel, mode, shifting, .memWrite a _ :: ms => !shifting && decide (a < dmemSize) && keepsContract c sel mode false ms
  | sel, mode, shifting, .setRes _ :: ms => !shifting && keepsContract c sel mode false ms
  | sel, _, shifting, .respond _ :: ms => !shifting && sel.isNone && ms.isEmpty

/-- A free bus (R43 item 1): nothing in flight, every device deselected, `op = 0`, `upc = 0`; and no delay running, `dly = 0`,
where U4 allows any value between operations (log 9, log 22). -/
def State.busFree (s : State) : Bool :=
  s.owner.isNone && !s.busy && s.allDeselected && decide (s.op = 0) && decide (s.upc = 0) && decide (s.dly = 0)

/-- An operation running for port `p` (R43 items 2 to 4): the port holds its command, `op` is the command's opcode, `upc`
is inside its micro-sequence, the micro-operations still to be done keep the contract from here, an exchange is in flight or
just complete exactly at its `Wait`, and a delay runs only at a `Delay`. -/
def State.running (s : State) (p : Port) : Bool :=
  match s.portCmd p with
  | none => false
  | some w =>
    match decode w with
    | .illegal _ => false
    | .command i =>
      let ms := (microSeq s.cfg i).drop s.upc.toNat
      i.usesBus && i.operandsOk && decide (s.op = wordOp w) && decide ((microSeq s.cfg i).length < 65536)
      && keepsContract s.cfg s.selectedDev s.modeDev (atWait ms) ms
      && (if atWait ms then s.busy != s.done else !s.busy)
      && (atDelay ms || decide (s.dly = 0))

/-- The memories are in canonical form: DMEM of 256 bytes (R61), and the arrays of the reference peripherals (R91, R93). -/
def State.memoriesOk (s : State) : Bool :=
  s.dmem.wf dmemSize && s.periph.rtc.reg.wf 128 && s.periph.lcd.ddram.wf 128

/-- The invariant of the machine: the port list has `N_PORTS` entries (R26), memories are canonical, at most one device is
selected (R37), and the bus is free or an operation of its owner runs (R43). -/
def State.inv (s : State) : Bool :=
  decide (s.ports.length = s.cfg.nPorts) && s.memoriesOk && s.atMostOneSelected
  && (match s.owner with | none => s.busFree | some p => s.running p)

/-- A state the machine can be in (R43 "every reachable state"): after reset under some configuration, with any environment
(DMEM and peripherals of any contents, any inputs, answers and choices), or one step later. -/
inductive Reachable : State → Prop where
  | reset (c : Config) (mem : Memory) (e : Periph) (ins : List Input) (ans : List Answer) (chs : List Choice)
      (hm : mem.wf dmemSize = true) (hr : e.rtc.reg.wf 128 = true) (hl : e.lcd.ddram.wf 128 = true) :
      Reachable { State.resetOf c with dmem := mem, periph := e, inputs := ins, rx := ans, choices := chs }
  | step (s t : State) (h : Reachable s) (ht : step s = .next t) : Reachable t

/-- No outside agent has anything scheduled, and no other port has an `Immediate` step enabled: the sequencer runs
undisturbed. -/
def State.undisturbed (s : State) : Bool := s.inputs.isEmpty && !s.rivalPending s.serving

/-- The state in which a bus command is granted and executes normally (R132, R149): the port being served holds it, and the
bus is free. -/
def State.readyFor (s : State) (i : Instr) : Bool :=
  decide (s.portCmd s.serving = some (encode i)) && s.busFree && s.undisturbed

/-- The port being served holds the command, and the port exists. -/
def State.holds (s : State) (i : Instr) : Bool := decide (s.portCmd s.serving = some (encode i))

/-- The hang (R245): the owner's operation is at a `Wait()` whose exchange the environment does not complete. -/
def State.hung (s : State) : Bool :=
  match s.owner with
  | none => false
  | some p =>
    match s.portCmd p with
    | none => false
    | some w =>
      match decode w with
      | .illegal _ => false
      | .command i =>
        i.usesBus && i.operandsOk && atWait ((microSeq s.cfg i).drop s.upc.toNat) && s.busy && !s.done
        && (match s.nextAnswer with | none => true | some _ => false)

/-- How many exchanges a micro-sequence has (R296: "An exchange counts as its micro-operations"). -/
def exchangeCount (ms : List Micro) : Nat :=
  (ms.filter (fun m => match m with | .shift _ => true | _ => false)).length

/-- How many transactions a micro-sequence has (R296): one for each deselect. -/
def transactionCount (c : Config) (ms : List Micro) : Nat :=
  (ms.filter (fun m => match m with | .line (.cs d) l => l != c.csActive.get d | _ => false)).length

/-- Steps of the machine, as the host's interface runs them. -/
def runSteps (n : Nat) (s : State) : Host.Outcome State Fault Refusal :=
  Host.Core.run { State := State, Fault := Fault, Refusal := Refusal, step := step, reset := State.reset } n s

end Sys2Proof.Machine
end

