-- ==== Sys2Proof/Safety/Traces.lean ====
section
/-! DEFINITION. The traces the command rules give (41_rtc.md, 42_sensor.md, 43_lcd.md, their "Trace:" paragraphs), written
down from the rules' text and not from the micro-sequences, and what an operation leaves when it has responded. -/

namespace Sys2Proof.Machine

/-- `M(dev) CS(dev,act) D(T_SETUP[dev])` (R146). -/
def beginEvents (c : Config) (d : Dev) : List Event := [.modeLoad d, .cs d (c.csActive.get d), .delay (.setup d)]

/-- `D(T_HOLD[dev]) CS(dev,inact) D(T_SETTLE[dev])` (R146). -/
def endEvents (c : Config) (d : Dev) : List Event := [.delay (.hold d), .cs d (!c.csActive.get d), .delay (.settle d)]

/-- An RTC transaction whose events between the brackets are given (R170). -/
def rtcTxEvents (c : Config) (mid : List Event) : List Event := beginEvents c .rtc ++ mid ++ endEvents c .rtc

/-- The transaction of a single-register read (R174): the address goes out while `i1` comes in, then the dummy while `i2` does. -/
def rtcReadEvents (c : Config) (addr i1 i2 : Byte) : List Event :=
  rtcTxEvents c [.exch (tagR c addr) i1, .exch c.dummyByte i2]

/-- `{ R(C+i→v_i) X(v_i→_) }` for `i` in 0..B-1 (R175), `f (i+1)` received in exchange `i+1`. -/
def blockWriteEvents (m : Memory) (buf : Byte) (count : Nat) (f : Nat → Byte) : List Event :=
  (List.range count).flatMap (fun i =>
    [.memRead (bufferAddr buf i) (m.read (bufferAddr buf i)), .exch (m.read (bufferAddr buf i)) (f (i + 1))])

/-- `{ X(DUMMY_BYTE→r_i) W(C+i, r_i) }` for `i` in 0..B-1 (R176), `r_i = f (i+1)`. -/
def blockReadEvents (c : Config) (buf : Byte) (count : Nat) (f : Nat → Byte) : List Event :=
  (List.range count).flatMap (fun i => [.exch c.dummyByte (f (i + 1)), .memWrite (bufferAddr buf i) (f (i + 1))])

/-- The trace of `SNS_RD` before its response (R193). -/
def sampleEvents (c : Config) (b1 b2 b3 b4 : Byte) : List Event :=
  [.modeLoad .sns, .cs .sns c.csActive.sns, .delay (.setup .sns), .exch c.dummyByte b1, .delay .snsWarmup,
   .cs .sns c.csActive.sns, .exch c.dummyByte b2, .cs .sns c.csActive.sns, .exch c.dummyByte b3,
   .cs .sns c.csActive.sns, .exch c.dummyByte b4] ++ endEvents c .sns

/-- The eight events of one LCD byte (R200). -/
def lcdByteEvents (c : Config) (level : Bool) (byte inp : Byte) : List Event :=
  [.modeLoad .lcd, .rs level, .cs .lcd c.csActive.lcd, .delay (.setup .lcd), .exch byte inp] ++ endEvents c .lcd

/-- The trace of `LCD_INIT` before its response (R205): the power-up delay, then the nine commands. -/
def initEvents (c : Config) (f : Nat → Byte) : List Event :=
  .delay .lcdPowerup :: (c.lcdInitSeq.toList.zipIdx).flatMap (fun e => lcdByteEvents c c.rsCmd e.1 (f e.2))

/-- One line of `LCD_DRAW` (R206), the first of whose seventeen received bytes is `f n`. -/
def lineEvents (c : Config) (m : Memory) (base buf : Byte) (n : Nat) (f : Nat → Byte) : List Event :=
  lcdByteEvents c c.rsCmd base (f n) ++
  (List.range 16).flatMap (fun k =>
    .memRead (bufferAddr buf k) (m.read (bufferAddr buf k)) ::
    lcdByteEvents c c.rsData (m.read (bufferAddr buf k)) (f (n + k + 1)))

/-- The trace of `LCD_DRAW` before its response (R206): three lines, 51 transactions. -/
def drawEvents (c : Config) (m : Memory) (buf1 buf2 buf3 : Byte) (f : Nat → Byte) : List Event :=
  lineEvents c m c.lcdLineBase.line1 buf1 0 f ++ lineEvents c m c.lcdLineBase.line2 buf2 17 f
    ++ lineEvents c m c.lcdLineBase.line3 buf3 34 f

/-- The environment answers the next `n` exchanges with the bytes `f 0`, `f 1`, ... -/
def answersOf (n : Nat) (f : Nat → Byte) : List Answer := (List.range n).map (fun k => .byte (f k))

/-- `SPMODE` after `Cfg(dev)` (R136, R32). -/
def loadedMode (c : Config) (d : Dev) : SpMode :=
  ⟨devCode d, (c.mode.get d).cpol, (c.mode.get d).cpha, (c.mode.get d).clksel⟩

/-- What every operation leaves when it has responded with DATA `d` after the events `evs` (R134, R104): its port idle and
every other port as before, the bus free, the chip-select lines as before the grant, the events then the response in the
trace, and the configuration and the outside agents' schedule untouched. That `dly` is 0 is the
model's choice (U4, log 22). -/
def OperationDone (s t : State) (d : Data) (evs : List Event) : Prop :=
  t.ports = s.ports.set s.serving.val none ∧ t.owner = none ∧ t.op = 0 ∧ t.upc = 0 ∧ t.busy = false ∧ t.dly = 0
  ∧ t.cs = s.cs ∧ t.trace = s.trace ++ evs ++ [.rsp s.serving (responseWord .ok d)]
  ∧ t.cfg = s.cfg ∧ t.serving = s.serving ∧ t.inputs = s.inputs ∧ t.choices = s.choices

/-- R106, R231: the words that match no command, read off the rules' text: a reserved opcode, `RSV` not 0, or a byte that
the format of the opcode (R101, R102) does not use not 0. -/
abbrev reservedWord (w : Word) : Prop :=
  wordOp w = 0x0 ∨ wordOp w = 0xE ∨ wordOp w = 0xF ∨ wordRsv w ≠ 0
  ∨ (wordC w ≠ 0 ∧ wordOp w ≠ 0x3 ∧ wordOp w ≠ 0x4 ∧ wordOp w ≠ 0xC)
  ∨ (wordA w ≠ 0 ∧ wordOp w ≠ 0x1 ∧ wordOp w ≠ 0x2 ∧ wordOp w ≠ 0x3 ∧ wordOp w ≠ 0x4 ∧ wordOp w ≠ 0xC)
  ∨ (wordB w ≠ 0 ∧ (wordOp w = 0x2 ∨ wordOp w = 0x5 ∨ wordOp w = 0x7 ∨ wordOp w = 0x8 ∨ wordOp w = 0xB))

/-- The temporaries are as before. Between operations this is the model's choice (U4, log 22). -/
def SameTemps (s t : State) : Prop := t.t0 = s.t0 ∧ t.t1 = s.t1 ∧ t.t2 = s.t2 ∧ t.t3 = s.t3

/-- Every byte of DMEM reads as before. -/
def SameDmem (s t : State) : Prop := ∀ a, t.dmem.read a = s.dmem.read a

/-- What answering a command by `Immediate` does to the state, whole (R133, R233): the port idle, the response in the trace. -/
def answeredState (s : State) (st : Status) (d : Data) : State :=
  { s with ports := s.ports.set s.serving.val none, trace := s.trace ++ [.rsp s.serving (responseWord st d)] }

end Sys2Proof.Machine
end

