-- ==== Sys2Proof/Certificates/Slice0/Obligations.lean ====
section
/-! DEFINITION. The statements for the provers, from the numbered rules of spec/. Each docstring names the rule or section
it formalises. A statement about every state is about every configuration, environment and schedule, since State holds
them. -/

open Sys2Proof Sys2Proof.Machine

/-! ### Encoding -/

/-- R111: `decode(encode(k, C, A, B))` returns the command, for every command with every operand at every value. -/
def Obligations.DecodeOfEncodeIsTheCommand : Prop := ∀ i : Instr, decode (encode i) = .command i

/-- 95_test_vectors.md 2.1: `encode(decode(w)) = w` for every word that decodes: no bit of a legal word is dropped. -/
def Obligations.EncodeOfDecodeIsTheWord : Prop := ∀ (w : Word) (i : Instr), decode w = .command i → encode i = w

/-- R106 (the encodings it names) : a word is illegal iff (a) its OP is 0x0, 0xE or 0xF, or (b) its RSV field is not 0, or
(c) a byte its format does not use is not 0. The format's used bytes are read off R102's table, opcode by opcode. -/
def Obligations.IllegalWordsAreExactlyTheReservedOnes : Prop :=
  ∀ w : Word, (∃ why, decode w = .illegal why) ↔ reservedWord w

/-- R108, one word of each row written out bit by bit from the table's pattern, decoded. -/
def Obligations.WordsOfTheTableDecode : Prop :=
  decode 0b00010000000000001000001000010010 = .command (.rtcWr 0x82 0x12)
  ∧ decode 0b00100000000000000000001000000000 = .command (.rtcRd 0x02)
  ∧ decode 0b00110000001000001000000000000011 = .command (.rtcBwr 0x20 0x80 3)
  ∧ decode 0b01000000000100000000000000000011 = .command (.rtcBrd 0x10 0x00 3)
  ∧ decode 0b01010000000000000000000000000000 = .command .rtcTime
  ∧ decode 0b01100000000000000000000001011001 = .command (.fmtTime 0x59)
  ∧ decode 0b01110000000000000000000000000000 = .command .snsCfg
  ∧ decode 0b10000000000000000000000000000000 = .command .snsRd
  ∧ decode 0b10010000000000000000000000000001 = .command (.lcdCmd 0x01)
  ∧ decode 0b10100000000000000000000001000001 = .command (.lcdDat 0x41)
  ∧ decode 0b10110000000000000000000000000000 = .command .lcdInit
  ∧ decode 0b11000000010000000101000001100000 = .command (.lcdDraw 0x40 0x50 0x60)
  ∧ decode 0b11010000000000000000000000000011 = .command (.crRd 3)

/-- R112: `RTC_WR HR_WT, v`, `RTC_WR HR_RD, v` and the pseudo-command `RTC_WR_HR v` put the same bytes on the bus: they
have the same micro-sequence; the assembler gives each line its command, whatever the configuration. -/
def Obligations.HourNamesPutTheSameBytesOnTheBus : Prop :=
  ∀ (c : Config) (v : Byte),
    microSeq c (.rtcWr (hrWt c) v) = microSeq c (.rtcWr (hrRd c) v)
    ∧ microSeq c (.rtcWr (hrWt c) v) = microSeq c (.rtcWr (c.rtcAddrHr.setWidth 8) v)
    ∧ (assembleLine c "RTC_WR HR_WT, 0x12").toOption = some (some (0, .rtcWr (hrWt c) 0x12))
    ∧ (assembleLine c "RTC_WR HR_RD, 0x12").toOption = some (some (0, .rtcWr (hrRd c) 0x12))
    ∧ (assembleLine c "RTC_WR_HR 0x12 ; hours").toOption = some (some (0, .rtcWr (c.rtcAddrHr.setWidth 8) 0x12))

/-! ### Operands and results -/

/-- R171: the tag. Bit 7 of the operand is ignored; the write form has the write tag, the read form its complement; bits 6:0
are the operand's; the two forms differ in bit 7 only; with `RTC_WRITE_TAG = 1` they are `a | 0x80` and `a & 0x7F`; the first
byte every RTC transaction shifts is the write form in a write and the read form in a read. -/
def Obligations.AddressByteIsTaggedByTheBlock : Prop :=
  ∀ (c : Config) (a b : Byte),
    tagW c a = ((BitVec.ofBool c.rtcWriteTag).setWidth 8 <<< 7 ||| (a &&& 0x7F))
    ∧ tagR c a = ((BitVec.ofBool (!c.rtcWriteTag)).setWidth 8 <<< 7 ||| (a &&& 0x7F))
    ∧ tagW c a ^^^ tagR c a = 0x80
    ∧ (a &&& 0x7F = b &&& 0x7F → tagW c a = tagW c b ∧ tagR c a = tagR c b)
    ∧ (c.rtcWriteTag = true → tagW c a = (a ||| 0x80) ∧ tagR c a = (a &&& 0x7F))
    ∧ (∀ buf n, (microSeq c (.rtcWr a b))[3]? = some (.shift (.imm (tagW c a)))
        ∧ (microSeq c (.rtcBwr buf a n))[3]? = some (.shift (.imm (tagW c a)))
        ∧ (microSeq c (.rtcRd a))[3]? = some (.shift (.imm (tagR c a)))
        ∧ (microSeq c (.rtcBrd buf a n))[3]? = some (.shift (.imm (tagR c a))))
    ∧ (microSeq c .rtcTime)[3]? = some (.shift (.imm (tagR c (c.rtcAddrHr.setWidth 8))))
    ∧ (microSeq c .rtcTime)[14]? = some (.shift (.imm (tagR c (c.rtcAddrMin.setWidth 8))))
    ∧ (microSeq c .rtcTime)[25]? = some (.shift (.imm (tagR c (c.rtcAddrSec.setWidth 8))))

/-- R178 and the document's property S4: the 60 bytes of [0x00, 0x59] both of whose nibbles are at most 9 give exactly the
numbers 0..59, each once; on every byte the result is at most 165 (R179). -/
def Obligations.BcdRoundTrips : Prop :=
  (∀ b : Byte, bcdToDecimal b ≤ 165)
  ∧ ∀ n : Nat, n < 60 → ∃ b : Byte, b.toNat ≤ 0x59 ∧ (b &&& 0x0F).toNat ≤ 9 ∧ bcdToDecimal b = n
      ∧ ∀ b' : Byte, b'.toNat ≤ 0x59 → (b' &&& 0x0F).toNat ≤ 9 → bcdToDecimal b' = n → b' = b

/-- R194: `hum = ((byte1 & 0x3F) << 8) | byte2`, `temp = (byte3 << 6) | (byte4 >> 2)`, both in 0..0x3FFF; the ored parts never
overlap, "or" and "concatenate" agree, so `RES` is `hum ++ temp`; the extremes. -/
def Obligations.SampleIsReassembled : Prop :=
  (∀ b1 b2 b3 b4 : Byte,
    humidity b1 b2 = (((b1 &&& 0x3F).setWidth 14 <<< 8) ||| b2.setWidth 14)
    ∧ temperature b3 b4 = ((b3.setWidth 14 <<< 6) ||| (b4 >>> 2).setWidth 14)
    ∧ (((b1 &&& 0x3F).setWidth 14 <<< 8) &&& b2.setWidth 14) = (0 : BitVec 14)
    ∧ ((b3.setWidth 14 <<< 6) &&& (b4 >>> 2).setWidth 14) = (0 : BitVec 14)
    ∧ (humidity b1 b2).toNat ≤ 0x3FFF ∧ (temperature b3 b4).toNat ≤ 0x3FFF
    ∧ (sampleData b1 b2 b3 b4).extractLsb' 14 14 = humidity b1 b2
    ∧ (sampleData b1 b2 b3 b4).extractLsb' 0 14 = temperature b3 b4)
  ∧ sampleData 0x00 0x00 0x00 0x00 = 0 ∧ sampleData 0x3F 0xFF 0xFF 0xFC = 0xFFFFFFF
  ∧ sampleData 0xFF 0xFF 0xFF 0xFF = 0xFFFFFFF

/-- R31 to R36: the fields of the five control registers, at their bits, and every other bit of the 28 reads 0. -/
def Obligations.ControlRegistersShowTheState : Prop :=
  ∀ s : State,
    (crValue s 0 = (s.spmode.dev.setWidth 28 <<< 8 ||| s.spmode.clksel.setWidth 28 <<< 4
      ||| (BitVec.ofBool s.spmode.cpol).setWidth 28 <<< 1 ||| (BitVec.ofBool s.spmode.cpha).setWidth 28))
    ∧ (crValue s 1 = ((BitVec.ofBool s.busy).setWidth 28 <<< 1 ||| (BitVec.ofBool s.done).setWidth 28))
    ∧ crValue s 2 = s.rxhold.setWidth 28
    ∧ (crValue s 3 = ((BitVec.ofBool s.rs).setWidth 28 <<< 3 ||| (BitVec.ofBool s.cs.lcd).setWidth 28 <<< 2
      ||| (BitVec.ofBool s.cs.sns).setWidth 28 <<< 1 ||| (BitVec.ofBool s.cs.rtc).setWidth 28))
    ∧ (s.owner = none → crValue s 4 = 0)
    ∧ ∀ p : Port, s.owner = some p → crValue s 4 = (s.op.setWidth 28 <<< 4 ||| BitVec.ofNat 28 p.val <<< 1 ||| 1)

/-! ### The commands: what each does, and that it completes -/

/-- 41_rtc.md R173: RTC_WR, granted on a free bus and answered by the environment, puts the write-tagged address and the value
on the bus in one transaction and responds OK with DATA 0; the state it leaves, and its frame.
What `T0`..`T3`, `RES`, `TXBYTE` and `dly` hold between operations is the model's choice where it is stated (U4, log 22). -/
def Obligations.RtcWrCompletes : Prop :=
  ∀ (s : State) (addr value i1 i2 : Byte) (rest : List Answer),
    s.readyFor (.rtcWr addr value) = true → s.rx = .byte i1 :: .byte i2 :: rest →
    ∃ t, exec (.rtcWr addr value) s = .next t
      ∧ OperationDone s t 0 (rtcTxEvents s.cfg [.exch (tagW s.cfg addr) i1, .exch value i2])
      ∧ t.done = true ∧ t.rxhold = i2 ∧ t.txbyte = value ∧ t.spmode = loadedMode s.cfg .rtc ∧ t.rx = rest
      ∧ t.rs = s.rs ∧ SameDmem s t ∧ SameTemps s t ∧ t.res = s.res
      ∧ t.periph.sns = s.periph.sns ∧ t.periph.lcd = s.periph.lcd

/-- 41_rtc.md R174: RTC_RD answers with the byte received during the second exchange; the byte received while the address
goes out is ignored.
What `T0`..`T3`, `RES`, `TXBYTE` and `dly` hold between operations is the model's choice where it is stated (U4, log 22). -/
def Obligations.RtcRdCompletes : Prop :=
  ∀ (s : State) (addr i1 i2 : Byte) (rest : List Answer),
    s.readyFor (.rtcRd addr) = true → s.rx = .byte i1 :: .byte i2 :: rest →
    ∃ t, exec (.rtcRd addr) s = .next t
      ∧ OperationDone s t (i2.setWidth 28) (rtcReadEvents s.cfg addr i1 i2)
      ∧ t.done = false ∧ t.rxhold = i2 ∧ t.txbyte = s.cfg.dummyByte ∧ t.spmode = loadedMode s.cfg .rtc ∧ t.rx = rest
      ∧ t.rs = s.rs ∧ SameDmem s t ∧ t.t0 = i2 ∧ t.t1 = s.t1 ∧ t.t2 = s.t2 ∧ t.t3 = s.t3 ∧ t.res = i2.setWidth 28
      ∧ t.periph.sns = s.periph.sns ∧ t.periph.lcd = s.periph.lcd

/-- 41_rtc.md R175: RTC_BWR with a good operand: the tagged start address, then each DMEM byte read immediately before it is
shifted, one transaction; DMEM is only read.
What `T0`..`T3`, `RES`, `TXBYTE` and `dly` hold between operations is the model's choice where it is stated (U4, log 22). -/
def Obligations.RtcBwrCompletes : Prop :=
  ∀ (s : State) (buf addr count : Byte) (f : Nat → Byte) (rest : List Answer),
    s.readyFor (.rtcBwr buf addr count) = true → 1 ≤ count.toNat → buf.toNat + count.toNat ≤ 256 →
    s.rx = answersOf (count.toNat + 1) f ++ rest →
    ∃ t, exec (.rtcBwr buf addr count) s = .next t
      ∧ OperationDone s t 0 (rtcTxEvents s.cfg
          (.exch (tagW s.cfg addr) (f 0) :: blockWriteEvents s.dmem buf count.toNat f))
      ∧ t.done = true ∧ t.rxhold = f count.toNat ∧ t.spmode = loadedMode s.cfg .rtc ∧ t.rx = rest
      ∧ t.rs = s.rs ∧ SameDmem s t ∧ t.t1 = s.t1 ∧ t.t2 = s.t2 ∧ t.t3 = s.t3 ∧ t.res = s.res
      ∧ t.periph.sns = s.periph.sns ∧ t.periph.lcd = s.periph.lcd

/-- 41_rtc.md R176: RTC_BRD with a good operand: the received bytes land in DMEM at `C .. C+B-1`, each written before the
next exchange starts, every other byte of DMEM as before; DATA 0.
What `T0`..`T3`, `RES`, `TXBYTE` and `dly` hold between operations is the model's choice where it is stated (U4, log 22). -/
def Obligations.RtcBrdCompletes : Prop :=
  ∀ (s : State) (buf addr count : Byte) (f : Nat → Byte) (rest : List Answer),
    s.readyFor (.rtcBrd buf addr count) = true → 1 ≤ count.toNat → buf.toNat + count.toNat ≤ 256 →
    s.rx = answersOf (count.toNat + 1) f ++ rest → s.dmem.wf dmemSize = true →
    ∃ t, exec (.rtcBrd buf addr count) s = .next t
      ∧ OperationDone s t 0 (rtcTxEvents s.cfg
          (.exch (tagR s.cfg addr) (f 0) :: blockReadEvents s.cfg buf count.toNat f))
      ∧ (∀ k, k < count.toNat → t.dmem.read (bufferAddr buf k) = f (k + 1))
      ∧ (∀ a, (∀ k, k < count.toNat → a ≠ bufferAddr buf k) → t.dmem.read a = s.dmem.read a)
      ∧ t.done = false ∧ t.rxhold = f count.toNat ∧ t.spmode = loadedMode s.cfg .rtc ∧ t.rx = rest
      ∧ t.rs = s.rs ∧ t.t1 = s.t1 ∧ t.t2 = s.t2 ∧ t.t3 = s.t3 ∧ t.res = s.res
      ∧ t.periph.sns = s.periph.sns ∧ t.periph.lcd = s.periph.lcd

/-- 41_rtc.md R177: RTC_TIME is three single-register read transactions, hours, minutes, seconds, and answers the three bytes
packed as received.
What `T0`..`T3`, `RES`, `TXBYTE` and `dly` hold between operations is the model's choice where it is stated (U4, log 22). -/
def Obligations.RtcTimeCompletes : Prop :=
  ∀ (s : State) (i1 h i2 m i3 sec : Byte) (rest : List Answer),
    s.readyFor .rtcTime = true →
    s.rx = .byte i1 :: .byte h :: .byte i2 :: .byte m :: .byte i3 :: .byte sec :: rest →
    ∃ t, exec .rtcTime s = .next t
      ∧ OperationDone s t ((0 : BitVec 4) ++ h ++ m ++ sec)
          (rtcReadEvents s.cfg (s.cfg.rtcAddrHr.setWidth 8) i1 h ++ rtcReadEvents s.cfg (s.cfg.rtcAddrMin.setWidth 8) i2 m
            ++ rtcReadEvents s.cfg (s.cfg.rtcAddrSec.setWidth 8) i3 sec)
      ∧ t.done = false ∧ t.rxhold = sec ∧ t.spmode = loadedMode s.cfg .rtc ∧ t.rx = rest
      ∧ t.rs = s.rs ∧ SameDmem s t ∧ t.t0 = s.t0 ∧ t.t1 = h ∧ t.t2 = m ∧ t.t3 = sec
      ∧ t.periph.sns = s.periph.sns ∧ t.periph.lcd = s.periph.lcd

/-- 42_sensor.md R192: SNS_CFG loads the sensor's mode, clears `DONE` and responds OK; no exchange, no line, no answer of
the environment used, `RXHOLD` unchanged.
What `T0`..`T3`, `RES`, `TXBYTE` and `dly` hold between operations is the model's choice where it is stated (U4, log 22). -/
def Obligations.SnsCfgCompletes : Prop :=
  ∀ s : State, s.readyFor .snsCfg = true →
    ∃ t, exec .snsCfg s = .next t
      ∧ OperationDone s t 0 [.modeLoad .sns]
      ∧ t.done = false ∧ t.rxhold = s.rxhold ∧ t.txbyte = s.txbyte ∧ t.spmode = loadedMode s.cfg .sns ∧ t.rx = s.rx
      ∧ t.rs = s.rs ∧ SameDmem s t ∧ SameTemps s t ∧ t.res = s.res ∧ t.periph = s.periph

/-- 42_sensor.md R193: SNS_RD is one transaction of four exchanges and answers the two reassembled 14-bit values.
What `T0`..`T3`, `RES`, `TXBYTE` and `dly` hold between operations is the model's choice where it is stated (U4, log 22). -/
def Obligations.SnsRdCompletes : Prop :=
  ∀ (s : State) (b1 b2 b3 b4 : Byte) (rest : List Answer),
    s.readyFor .snsRd = true → s.rx = .byte b1 :: .byte b2 :: .byte b3 :: .byte b4 :: rest →
    ∃ t, exec .snsRd s = .next t
      ∧ OperationDone s t ((b1.extractLsb' 0 6 ++ b2 : BitVec 14) ++ (b3 ++ b4.extractLsb' 2 6 : BitVec 14))
          (sampleEvents s.cfg b1 b2 b3 b4)
      ∧ t.done = false ∧ t.rxhold = b4 ∧ t.spmode = loadedMode s.cfg .sns ∧ t.rx = rest
      ∧ t.rs = s.rs ∧ SameDmem s t ∧ t.t0 = b1 ∧ t.t1 = b2 ∧ t.t2 = b3 ∧ t.t3 = b4
      ∧ t.periph.rtc = s.periph.rtc ∧ t.periph.lcd = s.periph.lcd

/-- 43_lcd.md R203: LCD_CMD sends its byte with `RS = RS_CMD`, one transaction; `DONE` is left as `LCD_DRAIN_CMD_BEFORE`
says.
What `T0`..`T3`, `RES`, `TXBYTE` and `dly` hold between operations is the model's choice where it is stated (U4, log 22). -/
def Obligations.LcdCmdCompletes : Prop :=
  ∀ (s : State) (byte inp : Byte) (rest : List Answer),
    s.readyFor (.lcdCmd byte) = true → s.rx = .byte inp :: rest →
    ∃ t, exec (.lcdCmd byte) s = .next t
      ∧ OperationDone s t 0 (lcdByteEvents s.cfg s.cfg.rsCmd byte inp)
      ∧ t.rs = s.cfg.rsCmd ∧ t.done = s.cfg.lcdDrainCmdBefore ∧ t.rxhold = inp ∧ t.txbyte = byte
      ∧ t.spmode = loadedMode s.cfg .lcd ∧ t.rx = rest
      ∧ SameDmem s t ∧ SameTemps s t ∧ t.res = s.res ∧ t.periph.rtc = s.periph.rtc ∧ t.periph.sns = s.periph.sns

/-- 43_lcd.md R204: LCD_DAT sends its byte with `RS = RS_DATA`, one transaction; the drain is the other way round.
What `T0`..`T3`, `RES`, `TXBYTE` and `dly` hold between operations is the model's choice where it is stated (U4, log 22). -/
def Obligations.LcdDatCompletes : Prop :=
  ∀ (s : State) (byte inp : Byte) (rest : List Answer),
    s.readyFor (.lcdDat byte) = true → s.rx = .byte inp :: rest →
    ∃ t, exec (.lcdDat byte) s = .next t
      ∧ OperationDone s t 0 (lcdByteEvents s.cfg s.cfg.rsData byte inp)
      ∧ t.rs = s.cfg.rsData ∧ t.done = (!s.cfg.lcdDrainCmdBefore) ∧ t.rxhold = inp ∧ t.txbyte = byte
      ∧ t.spmode = loadedMode s.cfg .lcd ∧ t.rx = rest
      ∧ SameDmem s t ∧ SameTemps s t ∧ t.res = s.res ∧ t.periph.rtc = s.periph.rtc ∧ t.periph.sns = s.periph.sns

/-- 43_lcd.md R205: LCD_INIT waits for the power-up delay and sends all nine command bytes, in order, each in its own
transaction.
What `T0`..`T3`, `RES`, `TXBYTE` and `dly` hold between operations is the model's choice where it is stated (U4, log 22). -/
def Obligations.LcdInitCompletes : Prop :=
  ∀ (s : State) (f : Nat → Byte) (rest : List Answer),
    s.readyFor .lcdInit = true → s.rx = answersOf 9 f ++ rest →
    ∃ t, exec .lcdInit s = .next t
      ∧ OperationDone s t 0 (initEvents s.cfg f)
      ∧ t.rs = s.cfg.rsCmd ∧ t.done = s.cfg.lcdDrainCmdBefore ∧ t.rxhold = f 8
      ∧ t.spmode = loadedMode s.cfg .lcd ∧ t.rx = rest
      ∧ SameDmem s t ∧ SameTemps s t ∧ t.res = s.res ∧ t.periph.rtc = s.periph.rtc ∧ t.periph.sns = s.periph.sns

/-- 43_lcd.md R206: LCD_DRAW with good operands sends for each of the three lines its base-address command and then the
sixteen characters, each read from DMEM immediately before the transaction that sends it; DMEM is only read.
What `T0`..`T3`, `RES`, `TXBYTE` and `dly` hold between operations is the model's choice where it is stated (U4, log 22). -/
def Obligations.LcdDrawCompletes : Prop :=
  ∀ (s : State) (buf1 buf2 buf3 : Byte) (f : Nat → Byte) (rest : List Answer),
    s.readyFor (.lcdDraw buf1 buf2 buf3) = true → buf1.toNat ≤ 240 → buf2.toNat ≤ 240 → buf3.toNat ≤ 240 →
    s.rx = answersOf 51 f ++ rest →
    ∃ t, exec (.lcdDraw buf1 buf2 buf3) s = .next t
      ∧ OperationDone s t 0 (drawEvents s.cfg s.dmem buf1 buf2 buf3 f)
      ∧ t.rs = s.cfg.rsData ∧ t.done = (!s.cfg.lcdDrainCmdBefore) ∧ t.rxhold = f 50
      ∧ t.spmode = loadedMode s.cfg .lcd ∧ t.rx = rest
      ∧ SameDmem s t ∧ t.t1 = s.t1 ∧ t.t2 = s.t2 ∧ t.t3 = s.t3 ∧ t.res = s.res
      ∧ t.periph.rtc = s.periph.rtc ∧ t.periph.sns = s.periph.sns

/-- 41_rtc.md R178: FMT_TIME answers `tens*10 + ones` for every byte, in every state, and changes nothing but its own port
and the trace (R133, R43 item 5). That `RES`, which R22 and R178's pseudocode write, holds after the step what it held before
is the model's reading of these rules (log 10). -/
def Obligations.FmtTimeCompletes : Prop :=
  ∀ (s : State) (bcd : Byte),
    exec (.fmtTime bcd) s =
      .next (answeredState s .ok (BitVec.ofNat 28 ((bcd >>> 4).toNat * 10 + (bcd &&& 0x0F).toNat)))

/-- 44_diagnostic.md R221: CR_RD of an existing register answers its value at that instant, in every state, whoever owns the
bus, and changes nothing but its own port and the trace: reading CR1 or CR2 does not clear `DONE`. That `RES`, which R22 and
R221's pseudocode write, holds after the step what it held before is the model's reading of these rules (log 10). -/
def Obligations.CrRdCompletes : Prop :=
  ∀ (s : State) (n : Byte), n.toNat ≤ 4 → exec (.crRd n) s = .next (answeredState s .ok (crValue s n.toNat))

/-- R135, R149, R296 over every bus command at once: a well-formed one granted on a free bus and undisturbed ends, with the
response OK, the bus released and everything deselected, if the environment completes as many exchanges as the
command's micro-sequence has; and it uses exactly that many answers.
What `T0`..`T3`, `RES`, `TXBYTE` and `dly` hold between operations is the model's choice where it is stated (U4, log 22). -/
def Obligations.EveryBusOperationEndsIfAnswered : Prop :=
  ∀ (s : State) (i : Instr) (ans rest : List Answer),
    i.usesBus = true → i.wellFormed = true → s.readyFor i = true → s.rx = ans ++ rest →
    ans.length = exchangeCount (microSeq s.cfg i) → (∀ a, a ∈ ans → a ≠ .never) →
    ∃ t d evs, exec i s = .next t ∧ OperationDone s t d evs ∧ t.rx = rest

/-! ### Faults -/

/-- R232, R233: the complete list of checks. A command whose check fails is answered BAD_OPERAND, the response word
0x2000_0000, and nothing else happens, in every state, whoever owns the bus; no other command has a check, whatever its
operands. -/
def Obligations.BadOperandsAreAnsweredAtOnce : Prop :=
  responseWord .badOperand 0 = 0x20000000
  ∧ (∀ i : Instr, i.wellFormed = true ∨ (∃ a b c, (i = .rtcBwr a b c ∨ i = .rtcBrd a b c) ∧ (c.toNat = 0 ∨ 256 < a.toNat + c.toNat))
      ∨ (∃ a b c, i = .lcdDraw a b c ∧ (240 < a.toNat ∨ 240 < b.toNat ∨ 240 < c.toNat)) ∨ ∃ n, i = .crRd n ∧ 4 < n.toNat)
  ∧ ∀ (s : State) (a b c : Byte),
    ((c.toNat = 0 ∨ 256 < a.toNat + c.toNat) →
      exec (.rtcBwr a b c) s = .next (answeredState s .badOperand 0)
      ∧ exec (.rtcBrd a b c) s = .next (answeredState s .badOperand 0))
    ∧ ((240 < a.toNat ∨ 240 < b.toNat ∨ 240 < c.toNat) →
      exec (.lcdDraw a b c) s = .next (answeredState s .badOperand 0))
    ∧ (4 < a.toNat → exec (.crRd a) s = .next (answeredState s .badOperand 0))

/-- R231, R233: when the block serves a port, any port, whose word matches no command for one of the causes R231 lists, it
answers ILLEGAL_COMMAND with DATA 0, the response word 0x1000_0000, and nothing else happens; and such a word waits for
nothing: its `Immediate` step is enabled whoever owns the bus. -/
def Obligations.IllegalWordsAreAnsweredAtOnce : Prop :=
  responseWord .illegalCommand 0 = 0x10000000
  ∧ (∀ (s t : State) (p : Port) (w : Word),
      s.actDue = false → s.tickPause.turn = some (p, t) → t.portCmd p = some w → reservedWord w →
      step s = .next (answeredState t .illegalCommand 0) ∧ t.serving = p)
  ∧ ∀ (s : State) (p : Port) (w : Word), s.portCmd p = some w → reservedWord w → s.owner ≠ some p →
      s.immediatePending p = true

/-- R236, "once granted, an operation cannot fault": from a state of the invariant no step is a fault of the model, whose
faults are assertions of its own (log 12). -/
def Obligations.NoStepOfTheMachineFaults : Prop := ∀ (s : State) (f : Fault), s.inv = true → step s ≠ .fault f

/-! ### Frames, under every schedule -/

/-- R43 item 5, R26, R250: a command changes no other port, the configuration, the schedule of choices, nor which port is
served, whether it completes, holds or stops for another agent. -/
def Obligations.CommandsLeaveOtherPortsAlone : Prop :=
  ∀ (i : Instr) (s t : State), exec i s = .next t →
    t.cfg = s.cfg ∧ t.serving = s.serving ∧ t.choices = s.choices ∧ t.ports.length = s.ports.length
    ∧ ∀ q, q ≠ s.serving → t.portCmd q = s.portCmd q

/-- R175, R206, R176: only RTC_BRD writes DMEM, and only at `C .. C+B-1`. -/
def Obligations.OnlyBlockReadWritesDmem : Prop :=
  (∀ (i : Instr) (s t : State), (∀ b a c, i ≠ .rtcBrd b a c) → exec i s = .next t → SameDmem s t)
  ∧ ∀ (buf addr count : Byte) (s t : State), exec (.rtcBrd buf addr count) s = .next t →
      ∀ a, (∀ k, k < count.toNat → a ≠ bufferAddr buf k) → t.dmem.read a = s.dmem.read a

/-- R137, R170, R38: the RTC commands drive no line but `CS[RTC]`, and leave `RS` as it is. RTC_WR and RTC_BWR do
not write `RES` nor `T1`..`T3`; RTC_WR no temporary at all.
What `T0`..`T3`, `RES`, `TXBYTE` and `dly` hold between operations is the model's choice where it is stated (U4, log 22). -/
def Obligations.RtcCommandsFrame : Prop :=
  ∀ (i : Instr) (s t : State),
    ((∃ a v, i = .rtcWr a v) ∨ (∃ a, i = .rtcRd a) ∨ (∃ b a c, i = .rtcBwr b a c) ∨ (∃ b a c, i = .rtcBrd b a c)
      ∨ i = .rtcTime) → exec i s = .next t →
    t.cs.sns = s.cs.sns ∧ t.cs.lcd = s.cs.lcd ∧ t.rs = s.rs
    ∧ t.periph.sns.b1 = s.periph.sns.b1 ∧ t.periph.sns.b2 = s.periph.sns.b2
    ∧ t.periph.sns.b3 = s.periph.sns.b3 ∧ t.periph.sns.b4 = s.periph.sns.b4
    ∧ ((∃ a v, i = .rtcWr a v) → SameTemps s t ∧ t.res = s.res)
    ∧ ((∃ b a c, i = .rtcBwr b a c) ∨ (∃ b a c, i = .rtcBrd b a c) →
        t.t1 = s.t1 ∧ t.t2 = s.t2 ∧ t.t3 = s.t3 ∧ t.res = s.res)
    ∧ ((∃ a, i = .rtcRd a) → t.t1 = s.t1 ∧ t.t2 = s.t2 ∧ t.t3 = s.t3)
    ∧ (i = .rtcTime → t.t0 = s.t0)

/-- R137, R191, R192, R38: the sensor commands drive no line but `CS[SNS]`; SNS_CFG drives no line, writes no temporary,
and not `RES`, `RXHOLD`, `TXBYTE` or `BUSY`.
What `T0`..`T3`, `RES`, `TXBYTE` and `dly` hold between operations is the model's choice where it is stated (U4, log 22). -/
def Obligations.SensorCommandsFrame : Prop :=
  ∀ (i : Instr) (s t : State), (i = .snsCfg ∨ i = .snsRd) → exec i s = .next t →
    t.cs.rtc = s.cs.rtc ∧ t.cs.lcd = s.cs.lcd ∧ t.rs = s.rs
    ∧ (i = .snsCfg → t.cs.sns = s.cs.sns ∧ SameTemps s t ∧ t.res = s.res ∧ t.rxhold = s.rxhold ∧ t.txbyte = s.txbyte
        ∧ t.busy = s.busy ∧ t.rx = s.rx ∧ t.periph = s.periph)

/-- R137, R200, R207: the LCD commands drive no line but `CS[LCD]` and `RS`, and do not write `RES`; LCD_CMD, LCD_DAT and
LCD_INIT write no temporary, LCD_DRAW only `T0`.
What `T0`..`T3`, `RES`, `TXBYTE` and `dly` hold between operations is the model's choice where it is stated (U4, log 22). -/
def Obligations.LcdCommandsFrame : Prop :=
  ∀ (i : Instr) (s t : State),
    ((∃ b, i = .lcdCmd b) ∨ (∃ b, i = .lcdDat b) ∨ i = .lcdInit ∨ (∃ a b c, i = .lcdDraw a b c)) → exec i s = .next t →
    t.cs.rtc = s.cs.rtc ∧ t.cs.sns = s.cs.sns ∧ t.res = s.res ∧ t.t1 = s.t1 ∧ t.t2 = s.t2 ∧ t.t3 = s.t3
    ∧ ((∀ a b c, i ≠ .lcdDraw a b c) → t.t0 = s.t0)

/-- R80, R12 and R8: whatever the step, events are only ever added at the end of the trace, and the configuration stays, the
margins of R285 in it. That the trace is a field of the state that only grows is the model's (log 15). -/
def Obligations.TraceOnlyGrowsAndConfigurationStays : Prop :=
  ∀ s t : State, step s = .next t → (∃ evs, t.trace = s.trace ++ evs) ∧ t.cfg = s.cfg

/-! ### Micro-operations -/

/-- R136, R137, R138: `Cfg` loads all of `SPMODE` and emits `M(dev)`; `Line` writes the one line and emits its event, every
other line keeps its level; the state is otherwise as before but for `upc`, and the reference peripherals' view of the
line. -/
def Obligations.CfgAndLineMicroOperations : Prop :=
  (∀ (s : State) (d : Dev), s.microTick (.cfg d) =
    .moved { s with spmode := loadedMode s.cfg d, trace := s.trace ++ [.modeLoad d], upc := s.upc + 1 })
  ∧ (∀ (s : State) (d : Dev) (l : Bool), ∃ e, s.microTick (.line (.cs d) l) =
    .moved { s with cs := s.cs.set d l, trace := s.trace ++ [.cs d l], upc := s.upc + 1, periph := e })
  ∧ (∀ (s : State) (l : Bool), s.microTick (.line .rs l) =
    .moved { s with rs := l, trace := s.trace ++ [.rs l], upc := s.upc + 1 })

/-- R140: `Shift(out)`, where its precondition holds, writes `TXBYTE <- out; BUSY <- 1; DONE <- 0` and emits nothing. The
precondition: the bus owned, `BUSY = 0`, exactly one device selected, and `SPMODE.DEV` that device (R147). -/
def Obligations.ShiftMicroOperation : Prop :=
  ∀ (s : State) (d : Dev) (out : Byte) (o : Source), s.owner ≠ none → s.busy = false → s.spmode.dev = devCode d →
    (∀ e, s.selected e = true ↔ e = d) →
    (o = .imm out ∨ (o = .temp .t0 ∧ s.t0 = out) ∨ (o = .temp .t1 ∧ s.t1 = out) ∨ (o = .temp .t2 ∧ s.t2 = out)
      ∨ (o = .temp .t3 ∧ s.t3 = out)) →
    s.microTick (.shift o) = .moved { s with txbyte := out, busy := true, done := false, upc := s.upc + 1 }

/-- R141: `Wait()` passes iff `DONE = 1`, writing nothing but `upc`; otherwise `upc` stays. While it stays the environment may
complete the exchange in flight (R145), with any byte: that loads `RXHOLD`, clears `BUSY`, sets `DONE` and emits `X(out→in)`;
with nothing in flight, or if the environment never completes it, the sequencer holds. That the completion is made where the
sequencer waits, as soon as an answer is there, is the model's choice (log 7), and so is the list of answers `nextAnswer`
reads (log 5). -/
def Obligations.WaitMicroOperation : Prop :=
  ∀ s : State,
    (s.done = true → s.microTick .wait = .moved { s with upc := s.upc + 1 })
    ∧ (s.done = false → s.busy = true → ∀ (b : Byte) (r : List Answer), s.nextAnswer = some (b, r) →
        ∃ e, s.microTick .wait = .moved
          { s with
            rxhold := b, busy := false, done := true, rx := r, periph := e,
            trace := s.trace ++ [.exch s.txbyte b] })
    ∧ (∀ (b : Byte) (r : List Answer), s.rx = .byte b :: r → s.nextAnswer = some (b, r))
    ∧ (∀ r : List Answer, s.rx = .never :: r → s.nextAnswer = none)
    ∧ (s.done = false → (s.busy = false ∨ s.nextAnswer = none) → s.microTick .wait = .holds)

/-- R142, R143: `TakeRx` gives `RXHOLD` and clears `DONE`, `RXHOLD` keeps its value, nothing is emitted; `Drain` is the same
with the byte discarded, and changes nothing but `upc` when `DONE` is 0 already. -/
def Obligations.TakeAndDrainMicroOperations : Prop :=
  ∀ s : State,
    s.microTick (.takeRx .t0) = .moved { s with t0 := s.rxhold, done := false, upc := s.upc + 1 }
    ∧ s.microTick (.takeRx .t1) = .moved { s with t1 := s.rxhold, done := false, upc := s.upc + 1 }
    ∧ s.microTick (.takeRx .t2) = .moved { s with t2 := s.rxhold, done := false, upc := s.upc + 1 }
    ∧ s.microTick (.takeRx .t3) = .moved { s with t3 := s.rxhold, done := false, upc := s.upc + 1 }
    ∧ s.microTick .drain = .moved { s with done := false, upc := s.upc + 1 }
    ∧ (s.done = false → s.microTick .drain = .moved { s with upc := s.upc + 1 })

/-- R139, R25: a `Delay` of a positive time begins by loading `dly` and holds `upc`; it completes with its event; with
time 0 it completes at once. That a delay is these two steps is the model's choice (log 9). -/
def Obligations.DelayMicroOperation : Prop :=
  ∀ (s : State) (m : Margin),
    (s.dly = 0 → marginTime s.cfg m ≠ 0 → s.microTick (.delay m) = .moved { s with dly := marginTime s.cfg m })
    ∧ ((s.dly ≠ 0 ∨ marginTime s.cfg m = 0) → s.microTick (.delay m) =
        .moved { s with dly := 0, trace := s.trace ++ [.delay m], upc := s.upc + 1 })

/-- R62: `MemRead` reads the byte DMEM holds at that instant and emits `R`; `MemWrite` writes it and emits `W`; every other
byte of DMEM reads as before. Each temporary. -/
def Obligations.MemoryMicroOperations : Prop :=
  ∀ (s : State) (a : Nat) (i : Temp), a < 256 → s.dmem.wf dmemSize = true →
    (∃ t, s.microTick (.memRead a i) = .moved t ∧ t.temp i = s.dmem.read a ∧ (∀ j, j ≠ i → t.temp j = s.temp j)
      ∧ t.dmem = s.dmem ∧ t.trace = s.trace ++ [.memRead a (s.dmem.read a)] ∧ t.upc = s.upc + 1)
    ∧ ∃ t, s.microTick (.memWrite a i) = .moved t ∧ t.dmem.read a = s.temp i ∧ (∀ j, t.temp j = s.temp j)
      ∧ (∀ b, b ≠ a → t.dmem.read b = s.dmem.read b) ∧ t.dmem.wf dmemSize = true
      ∧ t.trace = s.trace ++ [.memWrite a (s.temp i)] ∧ t.upc = s.upc + 1

/-- R134: the last micro-operation of every bus operation is `Respond(p, OK, RES-or-0)`; in the same step the port becomes
idle, `owner <- none; op <- 0; upc <- 0`; and it is preceded by the deselect and the settle delay of the operation's last
transaction (SNS_CFG, which selects nothing, has none).
What `T0`..`T3`, `RES`, `TXBYTE` and `dly` hold between operations is the model's choice where it is stated (U4, log 22). -/
def Obligations.OperationsEndByRelease : Prop :=
  (∀ (c : Config) (i : Instr), i.usesBus = true → i.wellFormed = true →
    ∃ body r, microSeq c i = body ++ [.respond r] ∧ (∀ r', Micro.respond r' ∉ body)
      ∧ (i ≠ .snsCfg → ∃ d pre post, body = pre ++ [deselect c d, .delay (.settle d)] ++ post
          ∧ ∀ m, m ∈ post → ∃ f, m = .setRes f))
  ∧ ∀ (s : State) (p : Port) (r : Bool), s.owner = some p →
      s.microTick (.respond r) = .responded { s with
        ports := s.ports.set p.val none, owner := none, op := 0, upc := 0,
        trace := s.trace ++ [.rsp p (responseWord .ok (if r then s.res else 0))] }

/-- R296: the number of micro-operations, exchanges and transactions of each command; with a device's active and inactive
level told apart, as they are. -/
def Obligations.MicroOperationCounts : Prop :=
  ∀ (c : Config) (a b k x y z : Byte),
    ((microSeq c (.rtcWr a b)).length = 11 ∧ exchangeCount (microSeq c (.rtcWr a b)) = 2
      ∧ transactionCount c (microSeq c (.rtcWr a b)) = 1)
    ∧ ((microSeq c (.rtcRd a)).length = 13 ∧ exchangeCount (microSeq c (.rtcRd a)) = 2
      ∧ transactionCount c (microSeq c (.rtcRd a)) = 1)
    ∧ ((microSeq c (.rtcBwr a b k)).length = 9 + 3 * k.toNat ∧ exchangeCount (microSeq c (.rtcBwr a b k)) = 1 + k.toNat
      ∧ transactionCount c (microSeq c (.rtcBwr a b k)) = 1)
    ∧ ((microSeq c (.rtcBrd a b k)).length = 9 + 4 * k.toNat ∧ exchangeCount (microSeq c (.rtcBrd a b k)) = 1 + k.toNat
      ∧ transactionCount c (microSeq c (.rtcBrd a b k)) = 1)
    ∧ ((microSeq c .rtcTime).length = 35 ∧ exchangeCount (microSeq c .rtcTime) = 6
      ∧ transactionCount c (microSeq c .rtcTime) = 3)
    ∧ ((microSeq c .snsCfg).length = 3 ∧ exchangeCount (microSeq c .snsCfg) = 0
      ∧ transactionCount c (microSeq c .snsCfg) = 0)
    ∧ ((microSeq c .snsRd).length = 24 ∧ exchangeCount (microSeq c .snsRd) = 4
      ∧ transactionCount c (microSeq c .snsRd) = 1)
    ∧ ((microSeq c (.lcdCmd a)).length = 11 ∧ exchangeCount (microSeq c (.lcdCmd a)) = 1
      ∧ transactionCount c (microSeq c (.lcdCmd a)) = 1)
    ∧ ((microSeq c (.lcdDat a)).length = 11 ∧ exchangeCount (microSeq c (.lcdDat a)) = 1
      ∧ transactionCount c (microSeq c (.lcdDat a)) = 1)
    ∧ ((microSeq c .lcdInit).length = 92 ∧ exchangeCount (microSeq c .lcdInit) = 9
      ∧ transactionCount c (microSeq c .lcdInit) = 9)
    ∧ ((microSeq c (.lcdDraw x y z)).length = 559 ∧ exchangeCount (microSeq c (.lcdDraw x y z)) = 51
      ∧ transactionCount c (microSeq c (.lcdDraw x y z)) = 51)
    ∧ microSeq c (.fmtTime a) = [] ∧ microSeq c (.crRd a) = []

/-! ### Arbitration and the step -/

/-- R13, R24, R133: when no outside agent is due and the block serves a port whose word decodes to a command, the step is the
command's meaning, at the state that has used up a `pause` and a choice and says which port is served. The rules say that the
block decodes and performs the command; that an outside agent's act comes first when it is due and that a step uses up a
`pause` is the model's choice (log 5), and so is the one scheduled choice it uses up (log 8). -/
def Obligations.StepRunsTheDecodedCommand : Prop :=
  ∀ (s t : State) (p : Port) (w : Word) (i : Instr),
    s.actDue = false → s.tickPause.turn = some (p, t) → t.portCmd p = some w → decode w = .command i →
    step s = exec i t ∧ t = { s.tickPause with serving := p, choices := s.choices.tail }

/-- The command handed over by `withFetchWord` is the one the very next step runs (the host's way to place a command,
log 5; R148, R107). -/
def Obligations.FetchedWordIsRun : Prop :=
  ∀ (s : State) (w : Word) (i : Instr), decode w = .command i →
    step (s.withFetchWord 32 w.toNat) = exec i (s.withFetchWord 32 w.toNat)

/-- R148: `Issue(p, w)` on an idle port writes the port and emits `Cmd(p, w)`, whatever else is going on; it is enabled on
an idle port only (on another it is refused, U16). -/
def Obligations.IssueOnAnIdlePort : Prop :=
  ∀ (s : State) (p : Port) (w : Word) (r : List Input), s.inputs = .issue p w :: r → p.val < s.ports.length →
    (s.portCmd p = none →
      step s = .next { s with inputs := r, ports := s.ports.set p.val (some w), trace := s.trace ++ [.cmd p w] })
    ∧ (s.portCmd p ≠ none → step s = .refused (.portBusy p))

/-- R287, R13: the DMEM owner may write at any time, between any two micro-operations: that byte changes, no other, and
nothing of the block does. That the write is no event, so that the trace stays too, is the model's reading of R12 (log 15). -/
def Obligations.HostWritesDmemAtAnyTime : Prop :=
  ∀ (s : State) (a v : Byte) (r : List Input), s.inputs = .poke a v :: r → s.dmem.wf dmemSize = true →
    ∃ m, step s = .next { s with inputs := r, dmem := m } ∧ Memory.read m a.toNat = v
      ∧ (∀ b, b ≠ a.toNat → Memory.read m b = s.dmem.read b) ∧ Memory.wf dmemSize m = true

/-- R132: the port `FIXED_LOWEST_PORT` grants is the lowest-numbered one holding a bus command; `ANY_PENDING` may grant any
port holding one, as the choice says (that a choice is data of the state is the model's, log 8). -/
def Obligations.GrantRule : Prop :=
  ∀ (s t : State) (p : Port), s.owner = none → s.turn = some (p, t) → s.busPending p = true →
    (s.cfg.arbPolicy = .fixedLowestPort → ∀ q, q < p → s.busPending q = false)
    ∧ ∀ q cs, s.cfg.arbPolicy = .anyPending → s.busPending q = true → s.choices = .grant q :: cs → p = q

/-- R131: while a port owns the bus, a bus command of another port makes no step: its meaning leaves the state as it is. -/
def Obligations.BusCommandsWaitForTheOwner : Prop :=
  ∀ (s : State) (i : Instr) (p : Port), s.owner = some p → p ≠ s.serving → i.usesBus = true → i.wellFormed = true →
    exec i s = .next s

/-- R131, R134, R270: ownership ends only by the owner's response or by a reset: after a step from a state of the
invariant the owner is the same, or the bus is free and the trace has got the owner's response or `Reset`. -/
def Obligations.OwnershipEndsByResponseOrReset : Prop :=
  ∀ (s t : State) (p : Port), s.inv = true → s.owner = some p → step s = .next t →
    t.owner = some p
    ∨ (t.owner = none ∧ ((∃ evs d, t.trace = s.trace ++ evs ++ [.rsp p (responseWord .ok d)])
        ∨ ∃ evs, t.trace = s.trace ++ .reset :: evs))

/-- R133: `Immediate` steps are enabled whatever `owner` is: with no choice made and no outside agent due, the lowest port
holding a word that needs no bus is served before the running operation goes on (the default order is the model's, log 8). -/
def Obligations.ImmediateIsServedWhileTheBusIsOwned : Prop :=
  ∀ (s : State) (p : Port), s.immediatePending p = true → (∀ q, q < p → s.immediatePending q = false) → s.choices = [] →
    s.turn = some (p, { s with serving := p })

/-! ### Invariants -/

/-- The invariant holds after reset under every configuration, and at the model's `State.reset` (R42, R43).
What `T0`..`T3`, `RES`, `TXBYTE` and `dly` hold between operations is the model's choice where it is stated (U4, log 22). -/
def Obligations.InvariantAtReset : Prop := State.reset.inv = true ∧ ∀ c : Config, (State.resetOf c).inv = true

/-- R43: every step keeps the invariant, under every schedule of the outside agents and every choice.
What `T0`..`T3`, `RES`, `TXBYTE` and `dly` hold between operations is the model's choice where it is stated (U4, log 22). -/
def Obligations.StepKeepsTheInvariant : Prop := ∀ s t : State, s.inv = true → step s = .next t → t.inv = true

/-- R43, R37 "at every instant": each single step of the sequencer inside an operation keeps the invariant as well.
What `T0`..`T3`, `RES`, `TXBYTE` and `dly` hold between operations is the model's choice where it is stated (U4, log 22). -/
def Obligations.EveryMicroStepKeepsTheInvariant : Prop :=
  ∀ (s t : State) (p : Port) (w : Word) (i : Instr),
    s.inv = true → s.owner = some p → s.portCmd p = some w → decode w = .command i →
    (s.seqTick (microSeq s.cfg i) = .moved t ∨ s.seqTick (microSeq s.cfg i) = .responded t) → t.inv = true

/-- R43 items 1 to 4 (with R37) in every reachable state. -/
def Obligations.ReachableStatesMeetR43 : Prop :=
  ∀ s : State, Reachable s →
    (s.owner = none → s.busy = false ∧ (∀ d, s.selected d = false) ∧ s.op = 0 ∧ s.upc = 0)
    ∧ (∀ p, s.owner = some p → ∃ w, s.portCmd p = some w ∧ s.op = wordOp w)
    ∧ (∀ d e, s.selected d = true → s.selected e = true → d = e)
    ∧ (s.busy = true → s.done = false ∧ ∃ d, s.selected d = true)

/-- R147, R140: at every `Shift` of a running operation the contract of `exchangeByte` holds. -/
def Obligations.ContractHoldsAtEveryShift : Prop :=
  ∀ (s : State) (p : Port) (w : Word) (i : Instr) (o : Source),
    s.inv = true → s.owner = some p → s.portCmd p = some w → decode w = .command i →
    (microSeq s.cfg i)[s.upc.toNat]? = some (.shift o) →
    s.busy = false ∧ ∃ d, s.spmode.dev = devCode d ∧ ∀ e, s.selected e = true ↔ e = d

/-- R292, R21: no bus operation's result, bus events or DMEM writes depend on a stale byte or flag, or on what a temporary or
`RES` held before: two ready states that differ only there run the same trace. (CR_RD, which needs no bus, reads `DONE` and
`RXHOLD` by its own rule and is not spoken of.) -/
def Obligations.StaleStateNeverLeaks : Prop :=
  ∀ (s u : State) (i : Instr) (ans rest : List Answer),
    i.usesBus = true → i.wellFormed = true → s.readyFor i = true → s.rx = ans ++ rest →
    ans.length = exchangeCount (microSeq s.cfg i) → (∀ a, a ∈ ans → a ≠ .never) →
    u = { s with
      done := u.done, rxhold := u.rxhold, txbyte := u.txbyte, res := u.res, t0 := u.t0, t1 := u.t1, t2 := u.t2, t3 := u.t3 } →
    ∃ t v, exec i s = .next t ∧ exec i u = .next v ∧ v.trace = t.trace ∧ v.dmem = t.dmem ∧ v.periph = t.periph

/-- R289: `DONE` after each command that ran to its end (with `LCD_DRAIN_CMD_BEFORE` true, and swapped for the LCD commands
with it false); unchanged by FMT_TIME, CR_RD and faults. -/
def Obligations.DoneAfterEachCommand : Prop :=
  (∀ (s t : State) (i : Instr) (ans rest : List Answer),
    i.usesBus = true → i.wellFormed = true → s.readyFor i = true → s.rx = ans ++ rest →
    ans.length = exchangeCount (microSeq s.cfg i) → (∀ a, a ∈ ans → a ≠ .never) → exec i s = .next t →
    t.done =
      match i with
      | .rtcWr _ _ => true
      | .rtcBwr _ _ _ => true
      | .lcdCmd _ => s.cfg.lcdDrainCmdBefore
      | .lcdInit => s.cfg.lcdDrainCmdBefore
      | .lcdDat _ => !s.cfg.lcdDrainCmdBefore
      | .lcdDraw _ _ _ => !s.cfg.lcdDrainCmdBefore
      | _ => false)
  ∧ (∀ (s t : State) (i : Instr), (i.usesBus = false ∨ i.wellFormed = false) → exec i s = .next t → t.done = s.done)

/-! ### Reset, idleness, the hang -/

/-- R42: the state after reset, for every configuration: the values R42 gives (what the registers it leaves unspecified hold is
the model's choice, log 2, and not stated); the block does nothing until a command is issued; a reset leaves DMEM and what
the reference peripherals hold. That a block with no step enabled answers the same state is how the model says that it does
nothing (log 13). -/
def Obligations.StateAfterReset : Prop :=
  (∀ c : Config, (∀ p, (State.resetOf c).portCmd p = none) ∧ (State.resetOf c).owner = none ∧ (State.resetOf c).op = 0
    ∧ (State.resetOf c).upc = 0 ∧ (State.resetOf c).spmode = ⟨3, false, false, 0⟩ ∧ (State.resetOf c).done = false
    ∧ (State.resetOf c).busy = false ∧ (State.resetOf c).rxhold = 0x00
    ∧ (∀ d, (State.resetOf c).cs.get d = !c.csActive.get d) ∧ (∀ d, (State.resetOf c).selected d = false)
    ∧ (State.resetOf c).rs = c.rsCmd
    ∧ step (State.resetOf c) = .next (State.resetOf c))
  ∧ ∀ s : State, s.resetBlock.dmem = s.dmem ∧ s.resetBlock.periph.rtc.reg = s.periph.rtc.reg
    ∧ s.resetBlock.periph.sns = s.periph.sns ∧ s.resetBlock.periph.lcd = s.periph.lcd

/-- R270: a reset, in any state: the block is as R42 says, no command gets a response, `Reset` is emitted and then one event
for each line whose level changes; DMEM and what the reference peripherals hold stay, and the transaction of a selected RTC-ref
ends. -/
def Obligations.ResetInAnyState : Prop :=
  ∀ (s : State) (r : List Input), s.inputs = .reset :: r →
    ∃ t evs, step s = .next t ∧ t.trace = s.trace ++ .reset :: evs ∧ evs.Nodup
      ∧ (∀ e, e ∈ evs ↔ (∃ d, s.cs.get d ≠ (!s.cfg.csActive.get d) ∧ e = .cs d (!s.cfg.csActive.get d))
          ∨ (s.rs ≠ s.cfg.rsCmd ∧ e = .rs s.cfg.rsCmd))
      ∧ (∀ p, t.portCmd p = none) ∧ t.owner = none ∧ t.op = 0 ∧ t.upc = 0 ∧ t.spmode = ⟨3, false, false, 0⟩
      ∧ t.done = false ∧ t.busy = false ∧ t.rxhold = 0x00 ∧ (∀ d, t.selected d = false) ∧ t.rs = s.cfg.rsCmd
      ∧ t.cfg = s.cfg ∧ t.inputs = r ∧ t.choices = s.choices ∧ t.dmem = s.dmem
      ∧ t.periph.rtc.reg = s.periph.rtc.reg ∧ t.periph.sns = s.periph.sns ∧ t.periph.lcd = s.periph.lcd
      ∧ (s.selected .rtc = true → t.periph.rtc.phase = .idle)

/-- R272, R14: after reset the block is quiescent, and a quiescent block makes no step until a host issues a command. R272
says that no step is enabled; that the machine then answers the same state is how the model says it (log 13). -/
def Obligations.QuiescentBlockIsIdle : Prop :=
  (∀ c : Config, (State.resetOf c).quiescent = true) ∧ (∀ s : State, s.resetBlock.quiescent = true)
  ∧ ∀ s : State, s.quiescent = true → s.inputs = [] → step s = .next s

/-- R245: the hang. While the environment does not complete the exchange and no outside agent or other port is due, the
block stays where it is: owner, `BUSY`, the selected device, the missing response; and it is not quiescent (a step that changes
nothing is how the model says that no block step is enabled, log 13). -/
def Obligations.HangIsForEver : Prop :=
  ∀ s : State, s.hung = true → s.undisturbed = true → s.owner = some s.serving → s.choices = [] →
    step s = .next s ∧ s.quiescent = false ∧ s.busy = true ∧ ∀ n, runSteps n s = .next s

/-- The document's scenario S8 (R173, R174, R91): with the reference environment, a write followed by a read of the same
register answers the byte written, whatever the tag bit of either operand. -/
def Obligations.WriteThenReadLoopsBack : Prop :=
  ∀ (s : State) (a b value : Byte) (rest : List Answer),
    s.readyFor (.rtcWr a value) = true → s.periph.rtc.reg.wf 128 = true → a &&& 0x7F = b &&& 0x7F →
    s.rx = .reference :: .reference :: .reference :: .reference :: rest →
    ∃ t u, exec (.rtcWr a value) s = .next t
      ∧ exec (.rtcRd b) { t with ports := t.ports.set t.serving.val (some (encode (.rtcRd b))) } = .next u
      ∧ ∃ evs, u.trace = t.trace ++ evs ++ [.rsp s.serving (responseWord .ok (value.setWidth 28))]
end

