-- ==== Sys2Proof/Laws/Assembler.lean ====
section
/-! SUPPORT. Programs on ports (R110): whatever the schedule, each port is issued its own lines, in their order. -/

namespace Sys2Proof.Machine

/-- The words a list of acts issues on a port. -/
def issuedOn (p : Port) (ins : List Input) : List Word :=
  ins.filterMap (fun a => match a with | .issue q w => if q = p then some w else none | _ => none)

/-- The words of a port's lines. -/
def linesOf (p : Port) (ls : List (Port × Instr)) : List Word :=
  ls.filterMap (fun l => if l.1 = p then some (encode l.2) else none)

/-- Taking a port's next line: it was the first of that port's, and no other port's lines change. -/
theorem takeLine_some (p : Port) (ls r : List (Port × Instr)) (i : Instr) (h : takeLine p ls = some (i, r)) :
    linesOf p ls = encode i :: linesOf p r ∧ ∀ q, q ≠ p → linesOf q ls = linesOf q r := by
  induction ls generalizing r with
  | nil => cases h
  | cons l ls ih =>
    obtain ⟨q, j⟩ := l
    by_cases hq : q = p
    · simp only [takeLine, hq, if_true, Option.some.injEq, Prod.mk.injEq] at h
      obtain ⟨rfl, rfl⟩ := h
      refine ⟨by simp [linesOf, hq], fun q' hq' => ?_⟩
      simp [linesOf, hq, Ne.symm hq']
    · simp only [takeLine, hq, if_false] at h
      split at h
      · rename_i j' r' ht
        simp only [Option.some.injEq, Prod.mk.injEq] at h
        obtain ⟨rfl, rfl⟩ := h
        obtain ⟨h1, h2⟩ := ih r' ht
        refine ⟨by simpa [linesOf, hq] using h1, fun q' hq' => ?_⟩
        have h3 := h2 q' hq'
        by_cases hqq : q = q'
        · simpa [linesOf, hqq] using h3
        · simpa [linesOf, hqq] using h3
      · cases h

/-- What a port is issued is a first part of its own lines, in their order, under every schedule. -/
theorem issuedOn_hostInputs (p : Port) (sched : List (Port × Nat)) (ls : List (Port × Instr)) :
    issuedOn p (hostInputs sched ls) <+: linesOf p ls := by
  induction sched generalizing ls with
  | nil => exact List.nil_prefix
  | cons t sched ih =>
    obtain ⟨q, n⟩ := t
    unfold hostInputs
    split
    · rename_i i r ht
      obtain ⟨h1, h2⟩ := takeLine_some q ls r i ht
      have hp : issuedOn p (List.replicate n Input.pause) = [] := by
        simp [issuedOn]
      have happ : issuedOn p (List.replicate n .pause ++ issueLine q i ++ hostInputs sched r)
          = issuedOn p (issueLine q i) ++ issuedOn p (hostInputs sched r) := by
        rw [issuedOn, List.filterMap_append, List.filterMap_append]
        change issuedOn p (List.replicate n Input.pause) ++ _ ++ _ = _
        rw [hp]; rfl
      rw [happ]
      by_cases hq : q = p
      · subst hq
        rw [h1]
        have he : issuedOn q (issueLine q i) = [encode i] := by simp [issuedOn, issueLine]
        rw [he]
        exact (List.prefix_append_right_inj [encode i]).mpr (ih r)
      · have he : issuedOn p (issueLine q i) = [] := by simp [issuedOn, issueLine, hq]
        rw [he, List.nil_append, h2 p (Ne.symm hq)]
        exact ih r
    · exact ih ls

/-- The text order issues every line. -/
theorem hostInputs_textOrder (ls : List (Port × Instr)) :
    hostInputs (textOrder ls) ls = ls.flatMap (fun l => issueLine l.1 l.2) := by
  induction ls with
  | nil => rfl
  | cons l ls ih =>
    obtain ⟨p, i⟩ := l
    have ht : hostInputs (textOrder ((p, i) :: ls)) ((p, i) :: ls) = issueLine p i ++ hostInputs (textOrder ls) ls := by
      simp [textOrder, hostInputs, takeLine]
    rw [ht, ih, List.flatMap_cons]

end Sys2Proof.Machine
end

