-- ==== Sys2Proof/Laws/Contract.lean ====
section
/-! SUPPORT. Every micro-sequence keeps the contract of R147 and leaves the bus as R43 item 1 asks (`microSeq_keepsContract`):
the loops are unrolled by one lemma, the transactions of each device are passed over by one lemma each. -/

namespace Sys2Proof.Machine

/-- A loop whose every body leaves the selection and the mode as they were may be passed over. -/
theorem keepsContract_flatMap {α : Type} (c : Config) (sel mode : Option Dev) (body : α → List Micro) (l : List α)
    (rest : List Micro)
    (h : ∀ x, x ∈ l → ∀ r, keepsContract c sel mode false (body x ++ r) = keepsContract c sel mode false r) :
    keepsContract c sel mode false (l.flatMap body ++ rest) = keepsContract c sel mode false rest := by
  induction l with
  | nil => rfl
  | cons x l ih =>
    rw [List.flatMap_cons, List.append_assoc, h x List.mem_cons_self]
    exact ih (fun y hy => h y (List.mem_cons_of_mem x hy))

/-- A transaction's bracket around what keeps the device selected. -/
theorem keepsContract_begin (c : Config) (mode : Option Dev) (d : Dev) (rest : List Micro) :
    keepsContract c none mode false (beginTx c d ++ rest) = keepsContract c (some d) (some d) false rest := by
  simp [beginTx, select, keepsContract]

theorem keepsContract_end (c : Config) (mode : Option Dev) (d : Dev) (rest : List Micro) :
    keepsContract c (some d) mode false (endTx c d ++ rest) = keepsContract c none mode false rest := by
  simp [endTx, deselect, keepsContract]

theorem keepsContract_xchg (c : Config) (d : Dev) (o : Source) (rest : List Micro) :
    keepsContract c (some d) (some d) false (xchg o ++ rest) = keepsContract c (some d) (some d) false rest := by
  simp [xchg, keepsContract, atWait]

theorem keepsContract_xchgTake (c : Config) (d : Dev) (o : Source) (i : Temp) (rest : List Micro) :
    keepsContract c (some d) (some d) false (xchgTake o i ++ rest) = keepsContract c (some d) (some d) false rest := by
  simp [xchgTake, keepsContract, atWait]

/-- One byte to the display is a whole transaction (R200). -/
theorem keepsContract_lcdByte (c : Config) (mode : Option Dev) (level drainBefore : Bool) (byte : Source) (rest : List Micro) :
    keepsContract c none mode false (lcdByte c level byte drainBefore ++ rest)
      = keepsContract c none (some .lcd) false rest := by
  cases drainBefore <;> simp [lcdByte, select, deselect, endTx, xchg, keepsContract, atWait]

/-- A single-register read is a whole transaction (R174). -/
theorem keepsContract_rtcReadTx (c : Config) (mode : Option Dev) (addr : Byte) (i : Temp) (rest : List Micro) :
    keepsContract c none mode false (rtcReadTx c addr i ++ rest) = keepsContract c none (some .rtc) false rest := by
  simp [rtcReadTx, keepsContract_begin, keepsContract_xchg, keepsContract_xchgTake, keepsContract_end, List.append_assoc]

/-- A display line starts with its command byte, whatever mode was loaded (R206). -/
theorem keepsContract_drawLine (c : Config) (mode : Option Dev) (line : Byte × Byte) (h : line.2.toNat ≤ 240) (rest : List Micro) :
    keepsContract c none mode false (drawLine c line ++ rest) = keepsContract c none (some .lcd) false rest := by
  rw [drawLine, List.append_assoc, lcdCommandByte, keepsContract_lcdByte]
  refine keepsContract_flatMap _ _ _ _ _ _ (fun k hk r => ?_)
  have hk16 : k < 16 := List.mem_range.mp hk
  have ha : bufferAddr line.2 k < dmemSize := by simp only [bufferAddr, dmemSize]; omega
  rw [List.cons_append, keepsContract, lcdDataByte, keepsContract_lcdByte]
  simp [ha]

/-- The micro-sequence of every bus command with good operands keeps the contract, from a free bus in any mode. -/
theorem microSeq_keepsContract (c : Config) (mode : Option Dev) (i : Instr) (hu : i.usesBus = true) (ho : i.operandsOk = true) :
    keepsContract c none mode false (microSeq c i) = true := by
  cases i <;> simp only [microSeq, Instr.usesBus, Instr.operandsOk, Bool.false_eq_true] at hu ho ⊢
  case rtcWr a v =>
    simp only [rtcWrSeq, List.append_assoc, keepsContract_begin, keepsContract_xchg, keepsContract_end]
    simp [keepsContract]
  case rtcRd a =>
    simp only [rtcRdSeq, keepsContract_rtcReadTx]
    simp [keepsContract]
  case rtcBwr b a n =>
    simp only [blockInDmem, Bool.and_eq_true, decide_eq_true_eq] at ho
    simp only [rtcBwrSeq, List.append_assoc, keepsContract_begin, keepsContract_xchg]
    rw [keepsContract_flatMap, keepsContract_end]
    · simp [keepsContract]
    · intro k hk r
      have hkn : k < n.toNat := List.mem_range.mp hk
      have hb : bufferAddr b k < dmemSize := by simp only [bufferAddr, dmemSize]; omega
      rw [blockWriteByte, List.cons_append, keepsContract, keepsContract_xchg]
      simp [hb]
  case rtcBrd b a n =>
    simp only [blockInDmem, Bool.and_eq_true, decide_eq_true_eq] at ho
    simp only [rtcBrdSeq, List.append_assoc, keepsContract_begin, keepsContract_xchg]
    rw [keepsContract_flatMap, keepsContract_end]
    · simp [keepsContract]
    · intro k hk r
      have hkn : k < n.toNat := List.mem_range.mp hk
      have hb : bufferAddr b k < dmemSize := by simp only [bufferAddr, dmemSize]; omega
      rw [blockReadByte, List.append_assoc, keepsContract_xchgTake, List.cons_append, List.nil_append, keepsContract]
      simp [hb]
  case rtcTime =>
    simp only [rtcTimeSeq, List.append_assoc, keepsContract_rtcReadTx]
    simp [keepsContract]
  case snsCfg => simp [snsCfgSeq, keepsContract]
  case snsRd => simp [snsRdSeq, select, deselect, xchgTake, endTx, keepsContract, atWait]
  case lcdCmd b =>
    simp only [lcdCmdSeq, lcdCommandByte, keepsContract_lcdByte]
    simp [keepsContract]
  case lcdDat b =>
    simp only [lcdDatSeq, lcdDataByte, keepsContract_lcdByte]
    simp [keepsContract]
  case lcdInit =>
    simp only [lcdInitSeq, LcdInitSeq.toList, lcdCommandByte, List.flatMap_cons, List.flatMap_nil, List.append_assoc,
      List.cons_append, keepsContract, keepsContract_lcdByte, List.nil_append]
    simp
  case lcdDraw x y z =>
    simp only [lineInDmem, Bool.and_eq_true, decide_eq_true_eq] at ho
    simp only [lcdDrawSeq, drawLines, List.flatMap_cons, List.flatMap_nil, List.append_assoc, List.nil_append]
    rw [keepsContract_drawLine _ _ _ ho.1.1, keepsContract_drawLine _ _ _ ho.1.2, keepsContract_drawLine _ _ _ ho.2]
    simp [keepsContract]

/-- No micro-sequence is as long as what `upc` can count (R24). -/
theorem microSeq_length (c : Config) (i : Instr) : (microSeq c i).length < 65536 := by
  have hconst : ∀ {α β : Type} (k : Nat) (f : α → List β) (l : List α), (∀ x, (f x).length = k) → (l.flatMap f).length = l.length * k := by
    intro α β k f l hf
    induction l with
    | nil => simp
    | cons x l ih => rw [List.flatMap_cons, List.length_append, hf, ih, List.length_cons, Nat.add_mul, Nat.one_mul, Nat.add_comm]
  have lcd : ∀ lv (b : Source) d, (lcdByte c lv b d).length = 10 := by
    intro lv b d; cases d <;> simp [lcdByte, xchg, endTx]
  cases i <;> simp only [microSeq]
  case rtcWr a v => simp [rtcWrSeq, beginTx, endTx, xchg]
  case rtcRd a => simp [rtcRdSeq, rtcReadTx, beginTx, endTx, xchg, xchgTake]
  case rtcBwr b a n =>
    simp only [rtcBwrSeq, List.length_append, hconst 3 (blockWriteByte b) _ (fun _ => rfl), List.length_range, beginTx, endTx,
      xchg, List.length_cons, List.length_nil]
    have := n.isLt
    omega
  case rtcBrd b a n =>
    simp only [rtcBrdSeq, List.length_append, hconst 4 (blockReadByte c b) _ (fun _ => rfl), List.length_range, beginTx, endTx,
      xchg, List.length_cons, List.length_nil]
    have := n.isLt
    omega
  case rtcTime => simp [rtcTimeSeq, rtcReadTx, beginTx, endTx, xchg, xchgTake]
  case fmtTime b => simp
  case snsCfg => simp [snsCfgSeq]
  case snsRd => simp [snsRdSeq, endTx, xchgTake]
  case lcdCmd b => simp [lcdCmdSeq, lcdCommandByte, lcd]
  case lcdDat b => simp [lcdDatSeq, lcdDataByte, lcd]
  case lcdInit => simp [lcdInitSeq, lcdCommandByte, LcdInitSeq.toList, lcd]
  case lcdDraw x y z =>
    have line : ∀ l : Byte × Byte, (drawLine c l).length = 186 := by
      intro l
      rw [drawLine, lcdCommandByte, List.length_append, lcd, hconst 11 _ _ (fun k => by simp [lcdDataByte, lcd]), List.length_range]
    simp [lcdDrawSeq, drawLines, line]
  case crRd n => simp

end Sys2Proof.Machine
end

