-- ==== Sys2Proof/Laws/Encoding.lean ====
section
/-! SUPPORT. The fields of an encoded word (R100, R111), and what a row of the table answers for it (R102, R107). -/

namespace Sys2Proof

theorem encodeFields_getLsbD (op : BitVec 4) (c a b : Byte) (k : Nat) :
    (encodeFields op c a b).getLsbD k =
      if k < 8 then b.getLsbD k else if k < 16 then a.getLsbD (k - 8) else if k < 24 then c.getLsbD (k - 16)
      else if k < 28 then false else op.getLsbD (k - 28) := by
  simp only [encodeFields, BitVec.getLsbD_append, Nat.sub_sub]
  by_cases h8 : k < 8
  · simp [h8]
  · by_cases h16 : k < 16
    · simp [h8, h16, show k - 8 < 8 by omega]
    · by_cases h24 : k < 24
      · simp [h8, h16, h24, show ¬ k - 8 < 8 by omega, show k - (8 + 8) < 8 by omega]
      · by_cases h28 : k < 28
        · simp [h8, h16, h24, h28, show ¬ k - 8 < 8 by omega, show ¬ k - 16 < 8 by omega, show k - 24 < 4 by omega]
        · simp [h8, h16, h24, h28, show ¬ k - 8 < 8 by omega, show ¬ k - 16 < 8 by omega, show ¬ k - 24 < 4 by omega]

@[simp] theorem wordOp_encodeFields (op : BitVec 4) (c a b : Byte) : wordOp (encodeFields op c a b) = op := by
  apply BitVec.eq_of_getLsbD_eq
  intro i hi
  simp [wordOp, encodeFields_getLsbD, hi, show ¬ 28 + i < 8 by omega,
    show ¬ 28 + i < 16 by omega, show ¬ 28 + i < 24 by omega]

@[simp] theorem wordRsv_encodeFields (op : BitVec 4) (c a b : Byte) : wordRsv (encodeFields op c a b) = 0 := by
  apply BitVec.eq_of_getLsbD_eq
  intro i hi
  simp [wordRsv, encodeFields_getLsbD, hi, show ¬ 24 + i < 8 by omega,
    show ¬ 24 + i < 16 by omega, show ¬ 24 + i < 24 by omega, show 24 + i < 28 by omega]

@[simp] theorem wordC_encodeFields (op : BitVec 4) (c a b : Byte) : wordC (encodeFields op c a b) = c := by
  apply BitVec.eq_of_getLsbD_eq
  intro i hi
  simp [wordC, encodeFields_getLsbD, hi, show ¬ 16 + i < 8 by omega, show ¬ 16 + i < 16 by omega, show 16 + i < 24 by omega]

@[simp] theorem wordA_encodeFields (op : BitVec 4) (c a b : Byte) : wordA (encodeFields op c a b) = a := by
  apply BitVec.eq_of_getLsbD_eq
  intro i hi
  simp [wordA, encodeFields_getLsbD, hi, show 8 + i < 16 by omega]

@[simp] theorem wordB_encodeFields (op : BitVec 4) (c a b : Byte) : wordB (encodeFields op c a b) = b := by
  apply BitVec.eq_of_getLsbD_eq
  intro i hi
  simp [wordB, encodeFields_getLsbD, hi]

/-- A row answers its command exactly on the words that match it. -/
theorem matchRow_command (w : Word) (k : BitVec 4) (f : Format) (i j : Instr) :
    matchRow w k f i = .command j ↔ w &&& f.mask = k.setWidth 32 <<< 28 ∧ i = j := by
  unfold matchRow
  split
  · simp [*]
  · split <;> simp [*]

end Sys2Proof
end

