-- ==== Sys2Proof/Laws/Memory.lean ====
section
/-! SUPPORT. The laws of byte memories: reading what was written, leaving the rest alone, keeping the canonical form. -/

namespace Sys2Proof.Machine

@[simp] theorem Memory.read_nil (a : Nat) : Memory.read [] a = Memory.unlisted := rfl

theorem Memory.read_cons (b : Nat) (x : Byte) (m : Memory) (a : Nat) :
    Memory.read ((b, x) :: m) a = if a = b then x else Memory.read m a := rfl

/-- What the canonical form says of a first entry. -/
theorem Memory.wf_cons (n a : Nat) (v : Byte) (m : Memory) :
    Memory.wf n ((a, v) :: m) = true ↔
      a < n ∧ v ≠ Memory.unlisted ∧ (∀ c ∈ m, a < c.1) ∧ Memory.wf n m = true := by
  simp [Memory.wf, and_assoc]

/-- An address below every entry reads as unlisted. -/
theorem Memory.read_of_lt (m : Memory) (a : Nat) (h : ∀ c ∈ m, a < c.1) : Memory.read m a = Memory.unlisted := by
  induction m with
  | nil => rfl
  | cons c m ih =>
    have h1 : a < c.1 := h c (List.mem_cons_self ..)
    rw [show c :: m = (c.1, c.2) :: m from rfl, Memory.read_cons, if_neg (by omega)]
    exact ih (fun d hd => h d (List.mem_cons_of_mem _ hd))

/-- The entries of a memory after a write are old entries or the new one. -/
theorem Memory.mem_write (m : Memory) (a : Nat) (v : Byte) (c : Host.Cell) (h : c ∈ m.write a v) : c ∈ m ∨ c = (a, v) := by
  induction m with
  | nil =>
    unfold Memory.write at h
    split at h
    · cases h
    · exact .inr (List.mem_singleton.mp h)
  | cons d m ih =>
    unfold Memory.write at h
    split at h
    · split at h
      · exact .inl h
      · rcases List.mem_cons.mp h with h | h
        · exact .inr h
        · exact .inl h
    · split at h
      · split at h
        · exact .inl (List.mem_cons_of_mem _ h)
        · rcases List.mem_cons.mp h with h | h
          · exact .inr h
          · exact .inl (List.mem_cons_of_mem _ h)
      · rcases List.mem_cons.mp h with h | h
        · exact .inl (h ▸ List.mem_cons_self ..)
        · rcases ih h with h | h
          · exact .inl (List.mem_cons_of_mem _ h)
          · exact .inr h

/-- A write keeps the canonical form. -/
theorem Memory.wf_write (n : Nat) (m : Memory) (a : Nat) (v : Byte) (ha : a < n) (h : Memory.wf n m = true) :
    Memory.wf n (m.write a v) = true := by
  induction m with
  | nil =>
    unfold Memory.write
    split
    · rfl
    · rename_i hv
      exact (Memory.wf_cons ..).mpr ⟨ha, hv, by simp, rfl⟩
  | cons d m ih =>
    obtain ⟨b, x⟩ := d
    obtain ⟨hb, hx, hm, hw⟩ := (Memory.wf_cons ..).mp h
    unfold Memory.write
    split
    · rename_i hab
      split
      · exact h
      · rename_i hv
        refine (Memory.wf_cons ..).mpr ⟨ha, hv, ?_, h⟩
        intro c hc
        rcases List.mem_cons.mp hc with rfl | hc
        · exact hab
        · exact Nat.lt_trans hab (hm c hc)
    · split
      · rename_i hab
        split
        · exact hw
        · rename_i hv
          exact (Memory.wf_cons ..).mpr ⟨ha, hv, hab ▸ hm, hw⟩
      · rename_i h1 h2
        refine (Memory.wf_cons ..).mpr ⟨hb, hx, ?_, ih hw⟩
        intro c hc
        rcases Memory.mem_write m a v c hc with hc | rfl
        · exact hm c hc
        · simp only
          omega

/-- The byte written is read back. -/
theorem Memory.read_write_same (n : Nat) (m : Memory) (a : Nat) (v : Byte) (h : Memory.wf n m = true) :
    Memory.read (m.write a v) a = v := by
  induction m with
  | nil =>
    unfold Memory.write
    split
    · rename_i hv
      rw [hv]; rfl
    · rw [Memory.read_cons, if_pos rfl]
  | cons d m ih =>
    obtain ⟨b, x⟩ := d
    obtain ⟨_, _, hm, hw⟩ := (Memory.wf_cons ..).mp h
    unfold Memory.write
    split
    · rename_i hab
      split
      · rename_i hv
        rw [hv]
        refine Memory.read_of_lt _ _ ?_
        intro c hc
        rcases List.mem_cons.mp hc with rfl | hc
        · exact hab
        · exact Nat.lt_trans hab (hm c hc)
      · rw [Memory.read_cons, if_pos rfl]
    · split
      · rename_i hab
        split
        · rename_i hv
          rw [hv, hab]
          exact Memory.read_of_lt _ _ hm
        · rw [Memory.read_cons, if_pos rfl]
      · rename_i h2
        rw [Memory.read_cons, if_neg h2]
        exact ih hw

/-- Every other byte reads as before, in any memory. -/
theorem Memory.read_write_of_ne (m : Memory) (a b : Nat) (v : Byte) (h : b ≠ a) :
    Memory.read (m.write a v) b = Memory.read m b := by
  induction m with
  | nil =>
    unfold Memory.write
    split
    · rfl
    · rw [Memory.read_cons, if_neg h]
  | cons d m ih =>
    obtain ⟨c, x⟩ := d
    unfold Memory.write
    split
    · split
      · rfl
      · rw [Memory.read_cons, if_neg h]
    · split
      · rename_i hac
        split
        · rw [Memory.read_cons, if_neg (hac ▸ h)]
        · rw [Memory.read_cons, if_neg h, Memory.read_cons, if_neg (hac ▸ h)]
      · rw [Memory.read_cons, Memory.read_cons, ih]

/-! ### The reference peripherals keep their memories canonical -/

theorem Periph.onLine_reg (c : Config) (l : Line) (old v : Bool) (e : Periph) :
    (e.onLine c l old v).rtc.reg = e.rtc.reg := by
  unfold Periph.onLine
  split <;> try rfl
  unfold RtcRef.onLine
  split
  · rfl
  · split <;> rfl

theorem Periph.onLine_ddram (c : Config) (l : Line) (old v : Bool) (e : Periph) :
    (e.onLine c l old v).lcd.ddram = e.lcd.ddram := by
  unfold Periph.onLine
  split <;> rfl

theorem Periph.exchange_reg_wf (c : Config) (sel : Option Dev) (rs : Bool) (out : Byte) (e : Periph)
    (h : e.rtc.reg.wf 128 = true) : (e.exchange c sel rs out).2.rtc.reg.wf 128 = true := by
  unfold Periph.exchange
  split <;> try exact h
  unfold RtcRef.exchange
  split
  · exact h
  · exact Memory.wf_write _ _ _ _ e.rtc.ap.isLt h
  · exact h
  · exact h

theorem Periph.exchange_ddram_wf (c : Config) (sel : Option Dev) (rs : Bool) (out : Byte) (e : Periph)
    (h : e.lcd.ddram.wf 128 = true) : (e.exchange c sel rs out).2.lcd.ddram.wf 128 = true := by
  unfold Periph.exchange
  split <;> try exact h
  unfold LcdRef.exchange
  split
  · exact h
  · exact Memory.wf_write _ _ _ _ e.lcd.ac.isLt h

end Sys2Proof.Machine
end

