-- ==== Sys2Proof/Laws/State.lean ====
section
/-! SUPPORT. One lemma per field per update of the state, each true by unfolding the update once: later proofs cite these and
unfold no update. -/

namespace Sys2Proof.Machine

/-! ### emit -/

@[simp] theorem State.emit_cfg (e : Event) (s : State) : (s.emit e).cfg = s.cfg := rfl
@[simp] theorem State.emit_ports (e : Event) (s : State) : (s.emit e).ports = s.ports := rfl
@[simp] theorem State.emit_owner (e : Event) (s : State) : (s.emit e).owner = s.owner := rfl
@[simp] theorem State.emit_op (e : Event) (s : State) : (s.emit e).op = s.op := rfl
@[simp] theorem State.emit_upc (e : Event) (s : State) : (s.emit e).upc = s.upc := rfl
@[simp] theorem State.emit_t0 (e : Event) (s : State) : (s.emit e).t0 = s.t0 := rfl
@[simp] theorem State.emit_t1 (e : Event) (s : State) : (s.emit e).t1 = s.t1 := rfl
@[simp] theorem State.emit_t2 (e : Event) (s : State) : (s.emit e).t2 = s.t2 := rfl
@[simp] theorem State.emit_t3 (e : Event) (s : State) : (s.emit e).t3 = s.t3 := rfl
@[simp] theorem State.emit_res (e : Event) (s : State) : (s.emit e).res = s.res := rfl
@[simp] theorem State.emit_spmode (e : Event) (s : State) : (s.emit e).spmode = s.spmode := rfl
@[simp] theorem State.emit_done (e : Event) (s : State) : (s.emit e).done = s.done := rfl
@[simp] theorem State.emit_busy (e : Event) (s : State) : (s.emit e).busy = s.busy := rfl
@[simp] theorem State.emit_rxhold (e : Event) (s : State) : (s.emit e).rxhold = s.rxhold := rfl
@[simp] theorem State.emit_txbyte (e : Event) (s : State) : (s.emit e).txbyte = s.txbyte := rfl
@[simp] theorem State.emit_cs (e : Event) (s : State) : (s.emit e).cs = s.cs := rfl
@[simp] theorem State.emit_rs (e : Event) (s : State) : (s.emit e).rs = s.rs := rfl
@[simp] theorem State.emit_dly (e : Event) (s : State) : (s.emit e).dly = s.dly := rfl
@[simp] theorem State.emit_dmem (e : Event) (s : State) : (s.emit e).dmem = s.dmem := rfl
@[simp] theorem State.emit_periph (e : Event) (s : State) : (s.emit e).periph = s.periph := rfl
@[simp] theorem State.emit_serving (e : Event) (s : State) : (s.emit e).serving = s.serving := rfl
@[simp] theorem State.emit_inputs (e : Event) (s : State) : (s.emit e).inputs = s.inputs := rfl
@[simp] theorem State.emit_rx (e : Event) (s : State) : (s.emit e).rx = s.rx := rfl
@[simp] theorem State.emit_choices (e : Event) (s : State) : (s.emit e).choices = s.choices := rfl
@[simp] theorem State.emit_trace (e : Event) (s : State) : (s.emit e).trace = s.trace ++ [e] := rfl

/-! ### advance -/

@[simp] theorem State.advance_cfg (s : State) : (s.advance).cfg = s.cfg := rfl
@[simp] theorem State.advance_ports (s : State) : (s.advance).ports = s.ports := rfl
@[simp] theorem State.advance_owner (s : State) : (s.advance).owner = s.owner := rfl
@[simp] theorem State.advance_op (s : State) : (s.advance).op = s.op := rfl
@[simp] theorem State.advance_upc (s : State) : (s.advance).upc = s.upc + 1 := rfl
@[simp] theorem State.advance_t0 (s : State) : (s.advance).t0 = s.t0 := rfl
@[simp] theorem State.advance_t1 (s : State) : (s.advance).t1 = s.t1 := rfl
@[simp] theorem State.advance_t2 (s : State) : (s.advance).t2 = s.t2 := rfl
@[simp] theorem State.advance_t3 (s : State) : (s.advance).t3 = s.t3 := rfl
@[simp] theorem State.advance_res (s : State) : (s.advance).res = s.res := rfl
@[simp] theorem State.advance_spmode (s : State) : (s.advance).spmode = s.spmode := rfl
@[simp] theorem State.advance_done (s : State) : (s.advance).done = s.done := rfl
@[simp] theorem State.advance_busy (s : State) : (s.advance).busy = s.busy := rfl
@[simp] theorem State.advance_rxhold (s : State) : (s.advance).rxhold = s.rxhold := rfl
@[simp] theorem State.advance_txbyte (s : State) : (s.advance).txbyte = s.txbyte := rfl
@[simp] theorem State.advance_cs (s : State) : (s.advance).cs = s.cs := rfl
@[simp] theorem State.advance_rs (s : State) : (s.advance).rs = s.rs := rfl
@[simp] theorem State.advance_dly (s : State) : (s.advance).dly = s.dly := rfl
@[simp] theorem State.advance_dmem (s : State) : (s.advance).dmem = s.dmem := rfl
@[simp] theorem State.advance_periph (s : State) : (s.advance).periph = s.periph := rfl
@[simp] theorem State.advance_serving (s : State) : (s.advance).serving = s.serving := rfl
@[simp] theorem State.advance_inputs (s : State) : (s.advance).inputs = s.inputs := rfl
@[simp] theorem State.advance_rx (s : State) : (s.advance).rx = s.rx := rfl
@[simp] theorem State.advance_choices (s : State) : (s.advance).choices = s.choices := rfl
@[simp] theorem State.advance_trace (s : State) : (s.advance).trace = s.trace := rfl

/-! ### setTemp -/

@[simp] theorem State.setTemp_cfg (i : Temp) (v : Byte) (s : State) : (s.setTemp i v).cfg = s.cfg := by cases i <;> rfl
@[simp] theorem State.setTemp_ports (i : Temp) (v : Byte) (s : State) : (s.setTemp i v).ports = s.ports := by cases i <;> rfl
@[simp] theorem State.setTemp_owner (i : Temp) (v : Byte) (s : State) : (s.setTemp i v).owner = s.owner := by cases i <;> rfl
@[simp] theorem State.setTemp_op (i : Temp) (v : Byte) (s : State) : (s.setTemp i v).op = s.op := by cases i <;> rfl
@[simp] theorem State.setTemp_upc (i : Temp) (v : Byte) (s : State) : (s.setTemp i v).upc = s.upc := by cases i <;> rfl
@[simp] theorem State.setTemp_res (i : Temp) (v : Byte) (s : State) : (s.setTemp i v).res = s.res := by cases i <;> rfl
@[simp] theorem State.setTemp_spmode (i : Temp) (v : Byte) (s : State) : (s.setTemp i v).spmode = s.spmode := by cases i <;> rfl
@[simp] theorem State.setTemp_done (i : Temp) (v : Byte) (s : State) : (s.setTemp i v).done = s.done := by cases i <;> rfl
@[simp] theorem State.setTemp_busy (i : Temp) (v : Byte) (s : State) : (s.setTemp i v).busy = s.busy := by cases i <;> rfl
@[simp] theorem State.setTemp_rxhold (i : Temp) (v : Byte) (s : State) : (s.setTemp i v).rxhold = s.rxhold := by cases i <;> rfl
@[simp] theorem State.setTemp_txbyte (i : Temp) (v : Byte) (s : State) : (s.setTemp i v).txbyte = s.txbyte := by cases i <;> rfl
@[simp] theorem State.setTemp_cs (i : Temp) (v : Byte) (s : State) : (s.setTemp i v).cs = s.cs := by cases i <;> rfl
@[simp] theorem State.setTemp_rs (i : Temp) (v : Byte) (s : State) : (s.setTemp i v).rs = s.rs := by cases i <;> rfl
@[simp] theorem State.setTemp_dly (i : Temp) (v : Byte) (s : State) : (s.setTemp i v).dly = s.dly := by cases i <;> rfl
@[simp] theorem State.setTemp_dmem (i : Temp) (v : Byte) (s : State) : (s.setTemp i v).dmem = s.dmem := by cases i <;> rfl
@[simp] theorem State.setTemp_periph (i : Temp) (v : Byte) (s : State) : (s.setTemp i v).periph = s.periph := by cases i <;> rfl
@[simp] theorem State.setTemp_serving (i : Temp) (v : Byte) (s : State) : (s.setTemp i v).serving = s.serving := by cases i <;> rfl
@[simp] theorem State.setTemp_inputs (i : Temp) (v : Byte) (s : State) : (s.setTemp i v).inputs = s.inputs := by cases i <;> rfl
@[simp] theorem State.setTemp_rx (i : Temp) (v : Byte) (s : State) : (s.setTemp i v).rx = s.rx := by cases i <;> rfl
@[simp] theorem State.setTemp_choices (i : Temp) (v : Byte) (s : State) : (s.setTemp i v).choices = s.choices := by cases i <;> rfl
@[simp] theorem State.setTemp_trace (i : Temp) (v : Byte) (s : State) : (s.setTemp i v).trace = s.trace := by cases i <;> rfl

/-! ### setPort -/

@[simp] theorem State.setPort_cfg (p : Port) (c : Option Word) (s : State) : (s.setPort p c).cfg = s.cfg := rfl
@[simp] theorem State.setPort_ports (p : Port) (c : Option Word) (s : State) : (s.setPort p c).ports = s.ports.set p.val c := rfl
@[simp] theorem State.setPort_owner (p : Port) (c : Option Word) (s : State) : (s.setPort p c).owner = s.owner := rfl
@[simp] theorem State.setPort_op (p : Port) (c : Option Word) (s : State) : (s.setPort p c).op = s.op := rfl
@[simp] theorem State.setPort_upc (p : Port) (c : Option Word) (s : State) : (s.setPort p c).upc = s.upc := rfl
@[simp] theorem State.setPort_t0 (p : Port) (c : Option Word) (s : State) : (s.setPort p c).t0 = s.t0 := rfl
@[simp] theorem State.setPort_t1 (p : Port) (c : Option Word) (s : State) : (s.setPort p c).t1 = s.t1 := rfl
@[simp] theorem State.setPort_t2 (p : Port) (c : Option Word) (s : State) : (s.setPort p c).t2 = s.t2 := rfl
@[simp] theorem State.setPort_t3 (p : Port) (c : Option Word) (s : State) : (s.setPort p c).t3 = s.t3 := rfl
@[simp] theorem State.setPort_res (p : Port) (c : Option Word) (s : State) : (s.setPort p c).res = s.res := rfl
@[simp] theorem State.setPort_spmode (p : Port) (c : Option Word) (s : State) : (s.setPort p c).spmode = s.spmode := rfl
@[simp] theorem State.setPort_done (p : Port) (c : Option Word) (s : State) : (s.setPort p c).done = s.done := rfl
@[simp] theorem State.setPort_busy (p : Port) (c : Option Word) (s : State) : (s.setPort p c).busy = s.busy := rfl
@[simp] theorem State.setPort_rxhold (p : Port) (c : Option Word) (s : State) : (s.setPort p c).rxhold = s.rxhold := rfl
@[simp] theorem State.setPort_txbyte (p : Port) (c : Option Word) (s : State) : (s.setPort p c).txbyte = s.txbyte := rfl
@[simp] theorem State.setPort_cs (p : Port) (c : Option Word) (s : State) : (s.setPort p c).cs = s.cs := rfl
@[simp] theorem State.setPort_rs (p : Port) (c : Option Word) (s : State) : (s.setPort p c).rs = s.rs := rfl
@[simp] theorem State.setPort_dly (p : Port) (c : Option Word) (s : State) : (s.setPort p c).dly = s.dly := rfl
@[simp] theorem State.setPort_dmem (p : Port) (c : Option Word) (s : State) : (s.setPort p c).dmem = s.dmem := rfl
@[simp] theorem State.setPort_periph (p : Port) (c : Option Word) (s : State) : (s.setPort p c).periph = s.periph := rfl
@[simp] theorem State.setPort_serving (p : Port) (c : Option Word) (s : State) : (s.setPort p c).serving = s.serving := rfl
@[simp] theorem State.setPort_inputs (p : Port) (c : Option Word) (s : State) : (s.setPort p c).inputs = s.inputs := rfl
@[simp] theorem State.setPort_rx (p : Port) (c : Option Word) (s : State) : (s.setPort p c).rx = s.rx := rfl
@[simp] theorem State.setPort_choices (p : Port) (c : Option Word) (s : State) : (s.setPort p c).choices = s.choices := rfl
@[simp] theorem State.setPort_trace (p : Port) (c : Option Word) (s : State) : (s.setPort p c).trace = s.trace := rfl

/-! ### respond -/

@[simp] theorem State.respond_cfg (p : Port) (st : Status) (d : Data) (s : State) : (s.respond p st d).cfg = s.cfg := rfl
@[simp] theorem State.respond_ports (p : Port) (st : Status) (d : Data) (s : State) : (s.respond p st d).ports = s.ports.set p.val none := rfl
@[simp] theorem State.respond_owner (p : Port) (st : Status) (d : Data) (s : State) : (s.respond p st d).owner = s.owner := rfl
@[simp] theorem State.respond_op (p : Port) (st : Status) (d : Data) (s : State) : (s.respond p st d).op = s.op := rfl
@[simp] theorem State.respond_upc (p : Port) (st : Status) (d : Data) (s : State) : (s.respond p st d).upc = s.upc := rfl
@[simp] theorem State.respond_t0 (p : Port) (st : Status) (d : Data) (s : State) : (s.respond p st d).t0 = s.t0 := rfl
@[simp] theorem State.respond_t1 (p : Port) (st : Status) (d : Data) (s : State) : (s.respond p st d).t1 = s.t1 := rfl
@[simp] theorem State.respond_t2 (p : Port) (st : Status) (d : Data) (s : State) : (s.respond p st d).t2 = s.t2 := rfl
@[simp] theorem State.respond_t3 (p : Port) (st : Status) (d : Data) (s : State) : (s.respond p st d).t3 = s.t3 := rfl
@[simp] theorem State.respond_res (p : Port) (st : Status) (d : Data) (s : State) : (s.respond p st d).res = s.res := rfl
@[simp] theorem State.respond_spmode (p : Port) (st : Status) (d : Data) (s : State) : (s.respond p st d).spmode = s.spmode := rfl
@[simp] theorem State.respond_done (p : Port) (st : Status) (d : Data) (s : State) : (s.respond p st d).done = s.done := rfl
@[simp] theorem State.respond_busy (p : Port) (st : Status) (d : Data) (s : State) : (s.respond p st d).busy = s.busy := rfl
@[simp] theorem State.respond_rxhold (p : Port) (st : Status) (d : Data) (s : State) : (s.respond p st d).rxhold = s.rxhold := rfl
@[simp] theorem State.respond_txbyte (p : Port) (st : Status) (d : Data) (s : State) : (s.respond p st d).txbyte = s.txbyte := rfl
@[simp] theorem State.respond_cs (p : Port) (st : Status) (d : Data) (s : State) : (s.respond p st d).cs = s.cs := rfl
@[simp] theorem State.respond_rs (p : Port) (st : Status) (d : Data) (s : State) : (s.respond p st d).rs = s.rs := rfl
@[simp] theorem State.respond_dly (p : Port) (st : Status) (d : Data) (s : State) : (s.respond p st d).dly = s.dly := rfl
@[simp] theorem State.respond_dmem (p : Port) (st : Status) (d : Data) (s : State) : (s.respond p st d).dmem = s.dmem := rfl
@[simp] theorem State.respond_periph (p : Port) (st : Status) (d : Data) (s : State) : (s.respond p st d).periph = s.periph := rfl
@[simp] theorem State.respond_serving (p : Port) (st : Status) (d : Data) (s : State) : (s.respond p st d).serving = s.serving := rfl
@[simp] theorem State.respond_inputs (p : Port) (st : Status) (d : Data) (s : State) : (s.respond p st d).inputs = s.inputs := rfl
@[simp] theorem State.respond_rx (p : Port) (st : Status) (d : Data) (s : State) : (s.respond p st d).rx = s.rx := rfl
@[simp] theorem State.respond_choices (p : Port) (st : Status) (d : Data) (s : State) : (s.respond p st d).choices = s.choices := rfl
@[simp] theorem State.respond_trace (p : Port) (st : Status) (d : Data) (s : State) : (s.respond p st d).trace = s.trace ++ [.rsp p (responseWord st d)] := rfl

/-! ### setRes -/

@[simp] theorem State.setRes_cfg (v : Data) (s : State) : (s.setRes v).cfg = s.cfg := rfl
@[simp] theorem State.setRes_ports (v : Data) (s : State) : (s.setRes v).ports = s.ports := rfl
@[simp] theorem State.setRes_owner (v : Data) (s : State) : (s.setRes v).owner = s.owner := rfl
@[simp] theorem State.setRes_op (v : Data) (s : State) : (s.setRes v).op = s.op := rfl
@[simp] theorem State.setRes_upc (v : Data) (s : State) : (s.setRes v).upc = s.upc := rfl
@[simp] theorem State.setRes_t0 (v : Data) (s : State) : (s.setRes v).t0 = s.t0 := rfl
@[simp] theorem State.setRes_t1 (v : Data) (s : State) : (s.setRes v).t1 = s.t1 := rfl
@[simp] theorem State.setRes_t2 (v : Data) (s : State) : (s.setRes v).t2 = s.t2 := rfl
@[simp] theorem State.setRes_t3 (v : Data) (s : State) : (s.setRes v).t3 = s.t3 := rfl
@[simp] theorem State.setRes_res (v : Data) (s : State) : (s.setRes v).res = v := rfl
@[simp] theorem State.setRes_spmode (v : Data) (s : State) : (s.setRes v).spmode = s.spmode := rfl
@[simp] theorem State.setRes_done (v : Data) (s : State) : (s.setRes v).done = s.done := rfl
@[simp] theorem State.setRes_busy (v : Data) (s : State) : (s.setRes v).busy = s.busy := rfl
@[simp] theorem State.setRes_rxhold (v : Data) (s : State) : (s.setRes v).rxhold = s.rxhold := rfl
@[simp] theorem State.setRes_txbyte (v : Data) (s : State) : (s.setRes v).txbyte = s.txbyte := rfl
@[simp] theorem State.setRes_cs (v : Data) (s : State) : (s.setRes v).cs = s.cs := rfl
@[simp] theorem State.setRes_rs (v : Data) (s : State) : (s.setRes v).rs = s.rs := rfl
@[simp] theorem State.setRes_dly (v : Data) (s : State) : (s.setRes v).dly = s.dly := rfl
@[simp] theorem State.setRes_dmem (v : Data) (s : State) : (s.setRes v).dmem = s.dmem := rfl
@[simp] theorem State.setRes_periph (v : Data) (s : State) : (s.setRes v).periph = s.periph := rfl
@[simp] theorem State.setRes_serving (v : Data) (s : State) : (s.setRes v).serving = s.serving := rfl
@[simp] theorem State.setRes_inputs (v : Data) (s : State) : (s.setRes v).inputs = s.inputs := rfl
@[simp] theorem State.setRes_rx (v : Data) (s : State) : (s.setRes v).rx = s.rx := rfl
@[simp] theorem State.setRes_choices (v : Data) (s : State) : (s.setRes v).choices = s.choices := rfl
@[simp] theorem State.setRes_trace (v : Data) (s : State) : (s.setRes v).trace = s.trace := rfl

/-! ### answer -/

/-- An `Immediate` answer is a response and nothing else (R133): `RES` is written, copied, and again as it was. -/
theorem State.answer_eq_respond (v : Data) (s : State) : s.answer v = s.respond s.serving .ok v := rfl

@[simp] theorem State.answer_cfg (v : Data) (s : State) : (s.answer v).cfg = s.cfg := rfl
@[simp] theorem State.answer_ports (v : Data) (s : State) : (s.answer v).ports = s.ports.set s.serving.val none := rfl
@[simp] theorem State.answer_owner (v : Data) (s : State) : (s.answer v).owner = s.owner := rfl
@[simp] theorem State.answer_op (v : Data) (s : State) : (s.answer v).op = s.op := rfl
@[simp] theorem State.answer_upc (v : Data) (s : State) : (s.answer v).upc = s.upc := rfl
@[simp] theorem State.answer_t0 (v : Data) (s : State) : (s.answer v).t0 = s.t0 := rfl
@[simp] theorem State.answer_t1 (v : Data) (s : State) : (s.answer v).t1 = s.t1 := rfl
@[simp] theorem State.answer_t2 (v : Data) (s : State) : (s.answer v).t2 = s.t2 := rfl
@[simp] theorem State.answer_t3 (v : Data) (s : State) : (s.answer v).t3 = s.t3 := rfl
@[simp] theorem State.answer_res (v : Data) (s : State) : (s.answer v).res = s.res := rfl
@[simp] theorem State.answer_spmode (v : Data) (s : State) : (s.answer v).spmode = s.spmode := rfl
@[simp] theorem State.answer_done (v : Data) (s : State) : (s.answer v).done = s.done := rfl
@[simp] theorem State.answer_busy (v : Data) (s : State) : (s.answer v).busy = s.busy := rfl
@[simp] theorem State.answer_rxhold (v : Data) (s : State) : (s.answer v).rxhold = s.rxhold := rfl
@[simp] theorem State.answer_txbyte (v : Data) (s : State) : (s.answer v).txbyte = s.txbyte := rfl
@[simp] theorem State.answer_cs (v : Data) (s : State) : (s.answer v).cs = s.cs := rfl
@[simp] theorem State.answer_rs (v : Data) (s : State) : (s.answer v).rs = s.rs := rfl
@[simp] theorem State.answer_dly (v : Data) (s : State) : (s.answer v).dly = s.dly := rfl
@[simp] theorem State.answer_dmem (v : Data) (s : State) : (s.answer v).dmem = s.dmem := rfl
@[simp] theorem State.answer_periph (v : Data) (s : State) : (s.answer v).periph = s.periph := rfl
@[simp] theorem State.answer_serving (v : Data) (s : State) : (s.answer v).serving = s.serving := rfl
@[simp] theorem State.answer_inputs (v : Data) (s : State) : (s.answer v).inputs = s.inputs := rfl
@[simp] theorem State.answer_rx (v : Data) (s : State) : (s.answer v).rx = s.rx := rfl
@[simp] theorem State.answer_choices (v : Data) (s : State) : (s.answer v).choices = s.choices := rfl
@[simp] theorem State.answer_trace (v : Data) (s : State) : (s.answer v).trace = s.trace ++ [.rsp s.serving (responseWord .ok v)] := rfl

/-! ### raise -/

@[simp] theorem State.raise_cfg (st : Status) (s : State) : (s.raise st).cfg = s.cfg := rfl
@[simp] theorem State.raise_ports (st : Status) (s : State) : (s.raise st).ports = s.ports.set s.serving.val none := rfl
@[simp] theorem State.raise_owner (st : Status) (s : State) : (s.raise st).owner = s.owner := rfl
@[simp] theorem State.raise_op (st : Status) (s : State) : (s.raise st).op = s.op := rfl
@[simp] theorem State.raise_upc (st : Status) (s : State) : (s.raise st).upc = s.upc := rfl
@[simp] theorem State.raise_t0 (st : Status) (s : State) : (s.raise st).t0 = s.t0 := rfl
@[simp] theorem State.raise_t1 (st : Status) (s : State) : (s.raise st).t1 = s.t1 := rfl
@[simp] theorem State.raise_t2 (st : Status) (s : State) : (s.raise st).t2 = s.t2 := rfl
@[simp] theorem State.raise_t3 (st : Status) (s : State) : (s.raise st).t3 = s.t3 := rfl
@[simp] theorem State.raise_res (st : Status) (s : State) : (s.raise st).res = s.res := rfl
@[simp] theorem State.raise_spmode (st : Status) (s : State) : (s.raise st).spmode = s.spmode := rfl
@[simp] theorem State.raise_done (st : Status) (s : State) : (s.raise st).done = s.done := rfl
@[simp] theorem State.raise_busy (st : Status) (s : State) : (s.raise st).busy = s.busy := rfl
@[simp] theorem State.raise_rxhold (st : Status) (s : State) : (s.raise st).rxhold = s.rxhold := rfl
@[simp] theorem State.raise_txbyte (st : Status) (s : State) : (s.raise st).txbyte = s.txbyte := rfl
@[simp] theorem State.raise_cs (st : Status) (s : State) : (s.raise st).cs = s.cs := rfl
@[simp] theorem State.raise_rs (st : Status) (s : State) : (s.raise st).rs = s.rs := rfl
@[simp] theorem State.raise_dly (st : Status) (s : State) : (s.raise st).dly = s.dly := rfl
@[simp] theorem State.raise_dmem (st : Status) (s : State) : (s.raise st).dmem = s.dmem := rfl
@[simp] theorem State.raise_periph (st : Status) (s : State) : (s.raise st).periph = s.periph := rfl
@[simp] theorem State.raise_serving (st : Status) (s : State) : (s.raise st).serving = s.serving := rfl
@[simp] theorem State.raise_inputs (st : Status) (s : State) : (s.raise st).inputs = s.inputs := rfl
@[simp] theorem State.raise_rx (st : Status) (s : State) : (s.raise st).rx = s.rx := rfl
@[simp] theorem State.raise_choices (st : Status) (s : State) : (s.raise st).choices = s.choices := rfl
@[simp] theorem State.raise_trace (st : Status) (s : State) : (s.raise st).trace = s.trace ++ [.rsp s.serving (responseWord st 0)] := rfl

/-! ### grant -/

@[simp] theorem State.grant_cfg (p : Port) (s : State) : (s.grant p).cfg = s.cfg := rfl
@[simp] theorem State.grant_ports (p : Port) (s : State) : (s.grant p).ports = s.ports := rfl
@[simp] theorem State.grant_owner (p : Port) (s : State) : (s.grant p).owner = some p := rfl
@[simp] theorem State.grant_op (p : Port) (s : State) : (s.grant p).op = wordOp ((s.portCmd p).getD 0) := rfl
@[simp] theorem State.grant_upc (p : Port) (s : State) : (s.grant p).upc = 0 := rfl
@[simp] theorem State.grant_t0 (p : Port) (s : State) : (s.grant p).t0 = s.t0 := rfl
@[simp] theorem State.grant_t1 (p : Port) (s : State) : (s.grant p).t1 = s.t1 := rfl
@[simp] theorem State.grant_t2 (p : Port) (s : State) : (s.grant p).t2 = s.t2 := rfl
@[simp] theorem State.grant_t3 (p : Port) (s : State) : (s.grant p).t3 = s.t3 := rfl
@[simp] theorem State.grant_res (p : Port) (s : State) : (s.grant p).res = s.res := rfl
@[simp] theorem State.grant_spmode (p : Port) (s : State) : (s.grant p).spmode = s.spmode := rfl
@[simp] theorem State.grant_done (p : Port) (s : State) : (s.grant p).done = s.done := rfl
@[simp] theorem State.grant_busy (p : Port) (s : State) : (s.grant p).busy = s.busy := rfl
@[simp] theorem State.grant_rxhold (p : Port) (s : State) : (s.grant p).rxhold = s.rxhold := rfl
@[simp] theorem State.grant_txbyte (p : Port) (s : State) : (s.grant p).txbyte = s.txbyte := rfl
@[simp] theorem State.grant_cs (p : Port) (s : State) : (s.grant p).cs = s.cs := rfl
@[simp] theorem State.grant_rs (p : Port) (s : State) : (s.grant p).rs = s.rs := rfl
@[simp] theorem State.grant_dly (p : Port) (s : State) : (s.grant p).dly = s.dly := rfl
@[simp] theorem State.grant_dmem (p : Port) (s : State) : (s.grant p).dmem = s.dmem := rfl
@[simp] theorem State.grant_periph (p : Port) (s : State) : (s.grant p).periph = s.periph := rfl
@[simp] theorem State.grant_serving (p : Port) (s : State) : (s.grant p).serving = s.serving := rfl
@[simp] theorem State.grant_inputs (p : Port) (s : State) : (s.grant p).inputs = s.inputs := rfl
@[simp] theorem State.grant_rx (p : Port) (s : State) : (s.grant p).rx = s.rx := rfl
@[simp] theorem State.grant_choices (p : Port) (s : State) : (s.grant p).choices = s.choices := rfl
@[simp] theorem State.grant_trace (p : Port) (s : State) : (s.grant p).trace = s.trace := rfl

/-! ### release -/

@[simp] theorem State.release_cfg (p : Port) (d : Data) (s : State) : (s.release p d).cfg = s.cfg := rfl
@[simp] theorem State.release_ports (p : Port) (d : Data) (s : State) : (s.release p d).ports = s.ports.set p.val none := rfl
@[simp] theorem State.release_owner (p : Port) (d : Data) (s : State) : (s.release p d).owner = none := rfl
@[simp] theorem State.release_op (p : Port) (d : Data) (s : State) : (s.release p d).op = 0 := rfl
@[simp] theorem State.release_upc (p : Port) (d : Data) (s : State) : (s.release p d).upc = 0 := rfl
@[simp] theorem State.release_t0 (p : Port) (d : Data) (s : State) : (s.release p d).t0 = s.t0 := rfl
@[simp] theorem State.release_t1 (p : Port) (d : Data) (s : State) : (s.release p d).t1 = s.t1 := rfl
@[simp] theorem State.release_t2 (p : Port) (d : Data) (s : State) : (s.release p d).t2 = s.t2 := rfl
@[simp] theorem State.release_t3 (p : Port) (d : Data) (s : State) : (s.release p d).t3 = s.t3 := rfl
@[simp] theorem State.release_res (p : Port) (d : Data) (s : State) : (s.release p d).res = s.res := rfl
@[simp] theorem State.release_spmode (p : Port) (d : Data) (s : State) : (s.release p d).spmode = s.spmode := rfl
@[simp] theorem State.release_done (p : Port) (d : Data) (s : State) : (s.release p d).done = s.done := rfl
@[simp] theorem State.release_busy (p : Port) (d : Data) (s : State) : (s.release p d).busy = s.busy := rfl
@[simp] theorem State.release_rxhold (p : Port) (d : Data) (s : State) : (s.release p d).rxhold = s.rxhold := rfl
@[simp] theorem State.release_txbyte (p : Port) (d : Data) (s : State) : (s.release p d).txbyte = s.txbyte := rfl
@[simp] theorem State.release_cs (p : Port) (d : Data) (s : State) : (s.release p d).cs = s.cs := rfl
@[simp] theorem State.release_rs (p : Port) (d : Data) (s : State) : (s.release p d).rs = s.rs := rfl
@[simp] theorem State.release_dly (p : Port) (d : Data) (s : State) : (s.release p d).dly = s.dly := rfl
@[simp] theorem State.release_dmem (p : Port) (d : Data) (s : State) : (s.release p d).dmem = s.dmem := rfl
@[simp] theorem State.release_periph (p : Port) (d : Data) (s : State) : (s.release p d).periph = s.periph := rfl
@[simp] theorem State.release_serving (p : Port) (d : Data) (s : State) : (s.release p d).serving = s.serving := rfl
@[simp] theorem State.release_inputs (p : Port) (d : Data) (s : State) : (s.release p d).inputs = s.inputs := rfl
@[simp] theorem State.release_rx (p : Port) (d : Data) (s : State) : (s.release p d).rx = s.rx := rfl
@[simp] theorem State.release_choices (p : Port) (d : Data) (s : State) : (s.release p d).choices = s.choices := rfl
@[simp] theorem State.release_trace (p : Port) (d : Data) (s : State) : (s.release p d).trace = s.trace ++ [.rsp p (responseWord .ok d)] := rfl

/-! ### driveLine -/

@[simp] theorem State.driveLine_cfg (l : Line) (v : Bool) (s : State) : (s.driveLine l v).cfg = s.cfg := by cases l <;> rfl
@[simp] theorem State.driveLine_ports (l : Line) (v : Bool) (s : State) : (s.driveLine l v).ports = s.ports := by cases l <;> rfl
@[simp] theorem State.driveLine_owner (l : Line) (v : Bool) (s : State) : (s.driveLine l v).owner = s.owner := by cases l <;> rfl
@[simp] theorem State.driveLine_op (l : Line) (v : Bool) (s : State) : (s.driveLine l v).op = s.op := by cases l <;> rfl
@[simp] theorem State.driveLine_upc (l : Line) (v : Bool) (s : State) : (s.driveLine l v).upc = s.upc := by cases l <;> rfl
@[simp] theorem State.driveLine_t0 (l : Line) (v : Bool) (s : State) : (s.driveLine l v).t0 = s.t0 := by cases l <;> rfl
@[simp] theorem State.driveLine_t1 (l : Line) (v : Bool) (s : State) : (s.driveLine l v).t1 = s.t1 := by cases l <;> rfl
@[simp] theorem State.driveLine_t2 (l : Line) (v : Bool) (s : State) : (s.driveLine l v).t2 = s.t2 := by cases l <;> rfl
@[simp] theorem State.driveLine_t3 (l : Line) (v : Bool) (s : State) : (s.driveLine l v).t3 = s.t3 := by cases l <;> rfl
@[simp] theorem State.driveLine_res (l : Line) (v : Bool) (s : State) : (s.driveLine l v).res = s.res := by cases l <;> rfl
@[simp] theorem State.driveLine_spmode (l : Line) (v : Bool) (s : State) : (s.driveLine l v).spmode = s.spmode := by cases l <;> rfl
@[simp] theorem State.driveLine_done (l : Line) (v : Bool) (s : State) : (s.driveLine l v).done = s.done := by cases l <;> rfl
@[simp] theorem State.driveLine_busy (l : Line) (v : Bool) (s : State) : (s.driveLine l v).busy = s.busy := by cases l <;> rfl
@[simp] theorem State.driveLine_rxhold (l : Line) (v : Bool) (s : State) : (s.driveLine l v).rxhold = s.rxhold := by cases l <;> rfl
@[simp] theorem State.driveLine_txbyte (l : Line) (v : Bool) (s : State) : (s.driveLine l v).txbyte = s.txbyte := by cases l <;> rfl
@[simp] theorem State.driveLine_dly (l : Line) (v : Bool) (s : State) : (s.driveLine l v).dly = s.dly := by cases l <;> rfl
@[simp] theorem State.driveLine_dmem (l : Line) (v : Bool) (s : State) : (s.driveLine l v).dmem = s.dmem := by cases l <;> rfl
@[simp] theorem State.driveLine_serving (l : Line) (v : Bool) (s : State) : (s.driveLine l v).serving = s.serving := by cases l <;> rfl
@[simp] theorem State.driveLine_inputs (l : Line) (v : Bool) (s : State) : (s.driveLine l v).inputs = s.inputs := by cases l <;> rfl
@[simp] theorem State.driveLine_rx (l : Line) (v : Bool) (s : State) : (s.driveLine l v).rx = s.rx := by cases l <;> rfl
@[simp] theorem State.driveLine_choices (l : Line) (v : Bool) (s : State) : (s.driveLine l v).choices = s.choices := by cases l <;> rfl
@[simp] theorem State.driveLine_trace (l : Line) (v : Bool) (s : State) : (s.driveLine l v).trace = s.trace ++ [lineEvent l v] := by cases l <;> rfl

/-! ### loadMode -/

@[simp] theorem State.loadMode_cfg (d : Dev) (s : State) : (s.loadMode d).cfg = s.cfg := rfl
@[simp] theorem State.loadMode_ports (d : Dev) (s : State) : (s.loadMode d).ports = s.ports := rfl
@[simp] theorem State.loadMode_owner (d : Dev) (s : State) : (s.loadMode d).owner = s.owner := rfl
@[simp] theorem State.loadMode_op (d : Dev) (s : State) : (s.loadMode d).op = s.op := rfl
@[simp] theorem State.loadMode_upc (d : Dev) (s : State) : (s.loadMode d).upc = s.upc := rfl
@[simp] theorem State.loadMode_t0 (d : Dev) (s : State) : (s.loadMode d).t0 = s.t0 := rfl
@[simp] theorem State.loadMode_t1 (d : Dev) (s : State) : (s.loadMode d).t1 = s.t1 := rfl
@[simp] theorem State.loadMode_t2 (d : Dev) (s : State) : (s.loadMode d).t2 = s.t2 := rfl
@[simp] theorem State.loadMode_t3 (d : Dev) (s : State) : (s.loadMode d).t3 = s.t3 := rfl
@[simp] theorem State.loadMode_res (d : Dev) (s : State) : (s.loadMode d).res = s.res := rfl
@[simp] theorem State.loadMode_spmode (d : Dev) (s : State) : (s.loadMode d).spmode = ⟨devCode d, (s.cfg.mode.get d).cpol, (s.cfg.mode.get d).cpha, (s.cfg.mode.get d).clksel⟩ := rfl
@[simp] theorem State.loadMode_done (d : Dev) (s : State) : (s.loadMode d).done = s.done := rfl
@[simp] theorem State.loadMode_busy (d : Dev) (s : State) : (s.loadMode d).busy = s.busy := rfl
@[simp] theorem State.loadMode_rxhold (d : Dev) (s : State) : (s.loadMode d).rxhold = s.rxhold := rfl
@[simp] theorem State.loadMode_txbyte (d : Dev) (s : State) : (s.loadMode d).txbyte = s.txbyte := rfl
@[simp] theorem State.loadMode_cs (d : Dev) (s : State) : (s.loadMode d).cs = s.cs := rfl
@[simp] theorem State.loadMode_rs (d : Dev) (s : State) : (s.loadMode d).rs = s.rs := rfl
@[simp] theorem State.loadMode_dly (d : Dev) (s : State) : (s.loadMode d).dly = s.dly := rfl
@[simp] theorem State.loadMode_dmem (d : Dev) (s : State) : (s.loadMode d).dmem = s.dmem := rfl
@[simp] theorem State.loadMode_periph (d : Dev) (s : State) : (s.loadMode d).periph = s.periph := rfl
@[simp] theorem State.loadMode_serving (d : Dev) (s : State) : (s.loadMode d).serving = s.serving := rfl
@[simp] theorem State.loadMode_inputs (d : Dev) (s : State) : (s.loadMode d).inputs = s.inputs := rfl
@[simp] theorem State.loadMode_rx (d : Dev) (s : State) : (s.loadMode d).rx = s.rx := rfl
@[simp] theorem State.loadMode_choices (d : Dev) (s : State) : (s.loadMode d).choices = s.choices := rfl
@[simp] theorem State.loadMode_trace (d : Dev) (s : State) : (s.loadMode d).trace = s.trace ++ [.modeLoad d] := rfl

/-! ### startShift -/

@[simp] theorem State.startShift_cfg (b : Byte) (s : State) : (s.startShift b).cfg = s.cfg := rfl
@[simp] theorem State.startShift_ports (b : Byte) (s : State) : (s.startShift b).ports = s.ports := rfl
@[simp] theorem State.startShift_owner (b : Byte) (s : State) : (s.startShift b).owner = s.owner := rfl
@[simp] theorem State.startShift_op (b : Byte) (s : State) : (s.startShift b).op = s.op := rfl
@[simp] theorem State.startShift_upc (b : Byte) (s : State) : (s.startShift b).upc = s.upc := rfl
@[simp] theorem State.startShift_t0 (b : Byte) (s : State) : (s.startShift b).t0 = s.t0 := rfl
@[simp] theorem State.startShift_t1 (b : Byte) (s : State) : (s.startShift b).t1 = s.t1 := rfl
@[simp] theorem State.startShift_t2 (b : Byte) (s : State) : (s.startShift b).t2 = s.t2 := rfl
@[simp] theorem State.startShift_t3 (b : Byte) (s : State) : (s.startShift b).t3 = s.t3 := rfl
@[simp] theorem State.startShift_res (b : Byte) (s : State) : (s.startShift b).res = s.res := rfl
@[simp] theorem State.startShift_spmode (b : Byte) (s : State) : (s.startShift b).spmode = s.spmode := rfl
@[simp] theorem State.startShift_done (b : Byte) (s : State) : (s.startShift b).done = false := rfl
@[simp] theorem State.startShift_busy (b : Byte) (s : State) : (s.startShift b).busy = true := rfl
@[simp] theorem State.startShift_rxhold (b : Byte) (s : State) : (s.startShift b).rxhold = s.rxhold := rfl
@[simp] theorem State.startShift_txbyte (b : Byte) (s : State) : (s.startShift b).txbyte = b := rfl
@[simp] theorem State.startShift_cs (b : Byte) (s : State) : (s.startShift b).cs = s.cs := rfl
@[simp] theorem State.startShift_rs (b : Byte) (s : State) : (s.startShift b).rs = s.rs := rfl
@[simp] theorem State.startShift_dly (b : Byte) (s : State) : (s.startShift b).dly = s.dly := rfl
@[simp] theorem State.startShift_dmem (b : Byte) (s : State) : (s.startShift b).dmem = s.dmem := rfl
@[simp] theorem State.startShift_periph (b : Byte) (s : State) : (s.startShift b).periph = s.periph := rfl
@[simp] theorem State.startShift_serving (b : Byte) (s : State) : (s.startShift b).serving = s.serving := rfl
@[simp] theorem State.startShift_inputs (b : Byte) (s : State) : (s.startShift b).inputs = s.inputs := rfl
@[simp] theorem State.startShift_rx (b : Byte) (s : State) : (s.startShift b).rx = s.rx := rfl
@[simp] theorem State.startShift_choices (b : Byte) (s : State) : (s.startShift b).choices = s.choices := rfl
@[simp] theorem State.startShift_trace (b : Byte) (s : State) : (s.startShift b).trace = s.trace := rfl

/-! ### finishShift -/

@[simp] theorem State.finishShift_cfg (b : Byte) (s : State) : (s.finishShift b).cfg = s.cfg := rfl
@[simp] theorem State.finishShift_ports (b : Byte) (s : State) : (s.finishShift b).ports = s.ports := rfl
@[simp] theorem State.finishShift_owner (b : Byte) (s : State) : (s.finishShift b).owner = s.owner := rfl
@[simp] theorem State.finishShift_op (b : Byte) (s : State) : (s.finishShift b).op = s.op := rfl
@[simp] theorem State.finishShift_upc (b : Byte) (s : State) : (s.finishShift b).upc = s.upc := rfl
@[simp] theorem State.finishShift_t0 (b : Byte) (s : State) : (s.finishShift b).t0 = s.t0 := rfl
@[simp] theorem State.finishShift_t1 (b : Byte) (s : State) : (s.finishShift b).t1 = s.t1 := rfl
@[simp] theorem State.finishShift_t2 (b : Byte) (s : State) : (s.finishShift b).t2 = s.t2 := rfl
@[simp] theorem State.finishShift_t3 (b : Byte) (s : State) : (s.finishShift b).t3 = s.t3 := rfl
@[simp] theorem State.finishShift_res (b : Byte) (s : State) : (s.finishShift b).res = s.res := rfl
@[simp] theorem State.finishShift_spmode (b : Byte) (s : State) : (s.finishShift b).spmode = s.spmode := rfl
@[simp] theorem State.finishShift_done (b : Byte) (s : State) : (s.finishShift b).done = true := rfl
@[simp] theorem State.finishShift_busy (b : Byte) (s : State) : (s.finishShift b).busy = false := rfl
@[simp] theorem State.finishShift_rxhold (b : Byte) (s : State) : (s.finishShift b).rxhold = b := rfl
@[simp] theorem State.finishShift_txbyte (b : Byte) (s : State) : (s.finishShift b).txbyte = s.txbyte := rfl
@[simp] theorem State.finishShift_cs (b : Byte) (s : State) : (s.finishShift b).cs = s.cs := rfl
@[simp] theorem State.finishShift_rs (b : Byte) (s : State) : (s.finishShift b).rs = s.rs := rfl
@[simp] theorem State.finishShift_dly (b : Byte) (s : State) : (s.finishShift b).dly = s.dly := rfl
@[simp] theorem State.finishShift_dmem (b : Byte) (s : State) : (s.finishShift b).dmem = s.dmem := rfl
@[simp] theorem State.finishShift_periph (b : Byte) (s : State) : (s.finishShift b).periph = s.periph := rfl
@[simp] theorem State.finishShift_serving (b : Byte) (s : State) : (s.finishShift b).serving = s.serving := rfl
@[simp] theorem State.finishShift_inputs (b : Byte) (s : State) : (s.finishShift b).inputs = s.inputs := rfl
@[simp] theorem State.finishShift_rx (b : Byte) (s : State) : (s.finishShift b).rx = s.rx := rfl
@[simp] theorem State.finishShift_choices (b : Byte) (s : State) : (s.finishShift b).choices = s.choices := rfl
@[simp] theorem State.finishShift_trace (b : Byte) (s : State) : (s.finishShift b).trace = s.trace := rfl

/-! ### clearDone -/

@[simp] theorem State.clearDone_cfg (s : State) : (s.clearDone).cfg = s.cfg := rfl
@[simp] theorem State.clearDone_ports (s : State) : (s.clearDone).ports = s.ports := rfl
@[simp] theorem State.clearDone_owner (s : State) : (s.clearDone).owner = s.owner := rfl
@[simp] theorem State.clearDone_op (s : State) : (s.clearDone).op = s.op := rfl
@[simp] theorem State.clearDone_upc (s : State) : (s.clearDone).upc = s.upc := rfl
@[simp] theorem State.clearDone_t0 (s : State) : (s.clearDone).t0 = s.t0 := rfl
@[simp] theorem State.clearDone_t1 (s : State) : (s.clearDone).t1 = s.t1 := rfl
@[simp] theorem State.clearDone_t2 (s : State) : (s.clearDone).t2 = s.t2 := rfl
@[simp] theorem State.clearDone_t3 (s : State) : (s.clearDone).t3 = s.t3 := rfl
@[simp] theorem State.clearDone_res (s : State) : (s.clearDone).res = s.res := rfl
@[simp] theorem State.clearDone_spmode (s : State) : (s.clearDone).spmode = s.spmode := rfl
@[simp] theorem State.clearDone_done (s : State) : (s.clearDone).done = false := rfl
@[simp] theorem State.clearDone_busy (s : State) : (s.clearDone).busy = s.busy := rfl
@[simp] theorem State.clearDone_rxhold (s : State) : (s.clearDone).rxhold = s.rxhold := rfl
@[simp] theorem State.clearDone_txbyte (s : State) : (s.clearDone).txbyte = s.txbyte := rfl
@[simp] theorem State.clearDone_cs (s : State) : (s.clearDone).cs = s.cs := rfl
@[simp] theorem State.clearDone_rs (s : State) : (s.clearDone).rs = s.rs := rfl
@[simp] theorem State.clearDone_dly (s : State) : (s.clearDone).dly = s.dly := rfl
@[simp] theorem State.clearDone_dmem (s : State) : (s.clearDone).dmem = s.dmem := rfl
@[simp] theorem State.clearDone_periph (s : State) : (s.clearDone).periph = s.periph := rfl
@[simp] theorem State.clearDone_serving (s : State) : (s.clearDone).serving = s.serving := rfl
@[simp] theorem State.clearDone_inputs (s : State) : (s.clearDone).inputs = s.inputs := rfl
@[simp] theorem State.clearDone_rx (s : State) : (s.clearDone).rx = s.rx := rfl
@[simp] theorem State.clearDone_choices (s : State) : (s.clearDone).choices = s.choices := rfl
@[simp] theorem State.clearDone_trace (s : State) : (s.clearDone).trace = s.trace := rfl

/-! ### complete -/

@[simp] theorem State.complete_cfg (b : Byte) (s : State) : (s.complete b).cfg = s.cfg := rfl
@[simp] theorem State.complete_ports (b : Byte) (s : State) : (s.complete b).ports = s.ports := rfl
@[simp] theorem State.complete_owner (b : Byte) (s : State) : (s.complete b).owner = s.owner := rfl
@[simp] theorem State.complete_op (b : Byte) (s : State) : (s.complete b).op = s.op := rfl
@[simp] theorem State.complete_upc (b : Byte) (s : State) : (s.complete b).upc = s.upc := rfl
@[simp] theorem State.complete_t0 (b : Byte) (s : State) : (s.complete b).t0 = s.t0 := rfl
@[simp] theorem State.complete_t1 (b : Byte) (s : State) : (s.complete b).t1 = s.t1 := rfl
@[simp] theorem State.complete_t2 (b : Byte) (s : State) : (s.complete b).t2 = s.t2 := rfl
@[simp] theorem State.complete_t3 (b : Byte) (s : State) : (s.complete b).t3 = s.t3 := rfl
@[simp] theorem State.complete_res (b : Byte) (s : State) : (s.complete b).res = s.res := rfl
@[simp] theorem State.complete_spmode (b : Byte) (s : State) : (s.complete b).spmode = s.spmode := rfl
@[simp] theorem State.complete_done (b : Byte) (s : State) : (s.complete b).done = true := rfl
@[simp] theorem State.complete_busy (b : Byte) (s : State) : (s.complete b).busy = false := rfl
@[simp] theorem State.complete_rxhold (b : Byte) (s : State) : (s.complete b).rxhold = b := rfl
@[simp] theorem State.complete_txbyte (b : Byte) (s : State) : (s.complete b).txbyte = s.txbyte := rfl
@[simp] theorem State.complete_cs (b : Byte) (s : State) : (s.complete b).cs = s.cs := rfl
@[simp] theorem State.complete_rs (b : Byte) (s : State) : (s.complete b).rs = s.rs := rfl
@[simp] theorem State.complete_dly (b : Byte) (s : State) : (s.complete b).dly = s.dly := rfl
@[simp] theorem State.complete_dmem (b : Byte) (s : State) : (s.complete b).dmem = s.dmem := rfl
@[simp] theorem State.complete_periph (b : Byte) (s : State) : (s.complete b).periph = s.referenceReply.2 := rfl
@[simp] theorem State.complete_serving (b : Byte) (s : State) : (s.complete b).serving = s.serving := rfl
@[simp] theorem State.complete_inputs (b : Byte) (s : State) : (s.complete b).inputs = s.inputs := rfl
@[simp] theorem State.complete_rx (b : Byte) (s : State) : (s.complete b).rx = s.rx := rfl
@[simp] theorem State.complete_choices (b : Byte) (s : State) : (s.complete b).choices = s.choices := rfl
@[simp] theorem State.complete_trace (b : Byte) (s : State) : (s.complete b).trace = s.trace ++ [.exch s.txbyte b] := rfl

/-! ### delayTick -/

@[simp] theorem State.delayTick_cfg (m : Margin) (s : State) : (s.delayTick m).cfg = s.cfg := by unfold State.delayTick; split <;> rfl
@[simp] theorem State.delayTick_ports (m : Margin) (s : State) : (s.delayTick m).ports = s.ports := by unfold State.delayTick; split <;> rfl
@[simp] theorem State.delayTick_owner (m : Margin) (s : State) : (s.delayTick m).owner = s.owner := by unfold State.delayTick; split <;> rfl
@[simp] theorem State.delayTick_op (m : Margin) (s : State) : (s.delayTick m).op = s.op := by unfold State.delayTick; split <;> rfl
@[simp] theorem State.delayTick_t0 (m : Margin) (s : State) : (s.delayTick m).t0 = s.t0 := by unfold State.delayTick; split <;> rfl
@[simp] theorem State.delayTick_t1 (m : Margin) (s : State) : (s.delayTick m).t1 = s.t1 := by unfold State.delayTick; split <;> rfl
@[simp] theorem State.delayTick_t2 (m : Margin) (s : State) : (s.delayTick m).t2 = s.t2 := by unfold State.delayTick; split <;> rfl
@[simp] theorem State.delayTick_t3 (m : Margin) (s : State) : (s.delayTick m).t3 = s.t3 := by unfold State.delayTick; split <;> rfl
@[simp] theorem State.delayTick_res (m : Margin) (s : State) : (s.delayTick m).res = s.res := by unfold State.delayTick; split <;> rfl
@[simp] theorem State.delayTick_spmode (m : Margin) (s : State) : (s.delayTick m).spmode = s.spmode := by unfold State.delayTick; split <;> rfl
@[simp] theorem State.delayTick_done (m : Margin) (s : State) : (s.delayTick m).done = s.done := by unfold State.delayTick; split <;> rfl
@[simp] theorem State.delayTick_busy (m : Margin) (s : State) : (s.delayTick m).busy = s.busy := by unfold State.delayTick; split <;> rfl
@[simp] theorem State.delayTick_rxhold (m : Margin) (s : State) : (s.delayTick m).rxhold = s.rxhold := by unfold State.delayTick; split <;> rfl
@[simp] theorem State.delayTick_txbyte (m : Margin) (s : State) : (s.delayTick m).txbyte = s.txbyte := by unfold State.delayTick; split <;> rfl
@[simp] theorem State.delayTick_cs (m : Margin) (s : State) : (s.delayTick m).cs = s.cs := by unfold State.delayTick; split <;> rfl
@[simp] theorem State.delayTick_rs (m : Margin) (s : State) : (s.delayTick m).rs = s.rs := by unfold State.delayTick; split <;> rfl
@[simp] theorem State.delayTick_dmem (m : Margin) (s : State) : (s.delayTick m).dmem = s.dmem := by unfold State.delayTick; split <;> rfl
@[simp] theorem State.delayTick_periph (m : Margin) (s : State) : (s.delayTick m).periph = s.periph := by unfold State.delayTick; split <;> rfl
@[simp] theorem State.delayTick_serving (m : Margin) (s : State) : (s.delayTick m).serving = s.serving := by unfold State.delayTick; split <;> rfl
@[simp] theorem State.delayTick_inputs (m : Margin) (s : State) : (s.delayTick m).inputs = s.inputs := by unfold State.delayTick; split <;> rfl
@[simp] theorem State.delayTick_rx (m : Margin) (s : State) : (s.delayTick m).rx = s.rx := by unfold State.delayTick; split <;> rfl
@[simp] theorem State.delayTick_choices (m : Margin) (s : State) : (s.delayTick m).choices = s.choices := by unfold State.delayTick; split <;> rfl

/-! ### tickPause -/

@[simp] theorem State.tickPause_cfg (s : State) : (s.tickPause).cfg = s.cfg := by unfold State.tickPause; split <;> rfl
@[simp] theorem State.tickPause_ports (s : State) : (s.tickPause).ports = s.ports := by unfold State.tickPause; split <;> rfl
@[simp] theorem State.tickPause_owner (s : State) : (s.tickPause).owner = s.owner := by unfold State.tickPause; split <;> rfl
@[simp] theorem State.tickPause_op (s : State) : (s.tickPause).op = s.op := by unfold State.tickPause; split <;> rfl
@[simp] theorem State.tickPause_upc (s : State) : (s.tickPause).upc = s.upc := by unfold State.tickPause; split <;> rfl
@[simp] theorem State.tickPause_t0 (s : State) : (s.tickPause).t0 = s.t0 := by unfold State.tickPause; split <;> rfl
@[simp] theorem State.tickPause_t1 (s : State) : (s.tickPause).t1 = s.t1 := by unfold State.tickPause; split <;> rfl
@[simp] theorem State.tickPause_t2 (s : State) : (s.tickPause).t2 = s.t2 := by unfold State.tickPause; split <;> rfl
@[simp] theorem State.tickPause_t3 (s : State) : (s.tickPause).t3 = s.t3 := by unfold State.tickPause; split <;> rfl
@[simp] theorem State.tickPause_res (s : State) : (s.tickPause).res = s.res := by unfold State.tickPause; split <;> rfl
@[simp] theorem State.tickPause_spmode (s : State) : (s.tickPause).spmode = s.spmode := by unfold State.tickPause; split <;> rfl
@[simp] theorem State.tickPause_done (s : State) : (s.tickPause).done = s.done := by unfold State.tickPause; split <;> rfl
@[simp] theorem State.tickPause_busy (s : State) : (s.tickPause).busy = s.busy := by unfold State.tickPause; split <;> rfl
@[simp] theorem State.tickPause_rxhold (s : State) : (s.tickPause).rxhold = s.rxhold := by unfold State.tickPause; split <;> rfl
@[simp] theorem State.tickPause_txbyte (s : State) : (s.tickPause).txbyte = s.txbyte := by unfold State.tickPause; split <;> rfl
@[simp] theorem State.tickPause_cs (s : State) : (s.tickPause).cs = s.cs := by unfold State.tickPause; split <;> rfl
@[simp] theorem State.tickPause_rs (s : State) : (s.tickPause).rs = s.rs := by unfold State.tickPause; split <;> rfl
@[simp] theorem State.tickPause_dly (s : State) : (s.tickPause).dly = s.dly := by unfold State.tickPause; split <;> rfl
@[simp] theorem State.tickPause_dmem (s : State) : (s.tickPause).dmem = s.dmem := by unfold State.tickPause; split <;> rfl
@[simp] theorem State.tickPause_periph (s : State) : (s.tickPause).periph = s.periph := by unfold State.tickPause; split <;> rfl
@[simp] theorem State.tickPause_serving (s : State) : (s.tickPause).serving = s.serving := by unfold State.tickPause; split <;> rfl
@[simp] theorem State.tickPause_rx (s : State) : (s.tickPause).rx = s.rx := by unfold State.tickPause; split <;> rfl
@[simp] theorem State.tickPause_choices (s : State) : (s.tickPause).choices = s.choices := by unfold State.tickPause; split <;> rfl
@[simp] theorem State.tickPause_trace (s : State) : (s.tickPause).trace = s.trace := by unfold State.tickPause; split <;> rfl

/-! ### hostPoke -/

@[simp] theorem State.hostPoke_cfg (a v : Byte) (s : State) : (s.hostPoke a v).cfg = s.cfg := rfl
@[simp] theorem State.hostPoke_ports (a v : Byte) (s : State) : (s.hostPoke a v).ports = s.ports := rfl
@[simp] theorem State.hostPoke_owner (a v : Byte) (s : State) : (s.hostPoke a v).owner = s.owner := rfl
@[simp] theorem State.hostPoke_op (a v : Byte) (s : State) : (s.hostPoke a v).op = s.op := rfl
@[simp] theorem State.hostPoke_upc (a v : Byte) (s : State) : (s.hostPoke a v).upc = s.upc := rfl
@[simp] theorem State.hostPoke_t0 (a v : Byte) (s : State) : (s.hostPoke a v).t0 = s.t0 := rfl
@[simp] theorem State.hostPoke_t1 (a v : Byte) (s : State) : (s.hostPoke a v).t1 = s.t1 := rfl
@[simp] theorem State.hostPoke_t2 (a v : Byte) (s : State) : (s.hostPoke a v).t2 = s.t2 := rfl
@[simp] theorem State.hostPoke_t3 (a v : Byte) (s : State) : (s.hostPoke a v).t3 = s.t3 := rfl
@[simp] theorem State.hostPoke_res (a v : Byte) (s : State) : (s.hostPoke a v).res = s.res := rfl
@[simp] theorem State.hostPoke_spmode (a v : Byte) (s : State) : (s.hostPoke a v).spmode = s.spmode := rfl
@[simp] theorem State.hostPoke_done (a v : Byte) (s : State) : (s.hostPoke a v).done = s.done := rfl
@[simp] theorem State.hostPoke_busy (a v : Byte) (s : State) : (s.hostPoke a v).busy = s.busy := rfl
@[simp] theorem State.hostPoke_rxhold (a v : Byte) (s : State) : (s.hostPoke a v).rxhold = s.rxhold := rfl
@[simp] theorem State.hostPoke_txbyte (a v : Byte) (s : State) : (s.hostPoke a v).txbyte = s.txbyte := rfl
@[simp] theorem State.hostPoke_cs (a v : Byte) (s : State) : (s.hostPoke a v).cs = s.cs := rfl
@[simp] theorem State.hostPoke_rs (a v : Byte) (s : State) : (s.hostPoke a v).rs = s.rs := rfl
@[simp] theorem State.hostPoke_dly (a v : Byte) (s : State) : (s.hostPoke a v).dly = s.dly := rfl
@[simp] theorem State.hostPoke_dmem (a v : Byte) (s : State) : (s.hostPoke a v).dmem = s.dmem.write a.toNat v := rfl
@[simp] theorem State.hostPoke_periph (a v : Byte) (s : State) : (s.hostPoke a v).periph = s.periph := rfl
@[simp] theorem State.hostPoke_serving (a v : Byte) (s : State) : (s.hostPoke a v).serving = s.serving := rfl
@[simp] theorem State.hostPoke_inputs (a v : Byte) (s : State) : (s.hostPoke a v).inputs = s.inputs := rfl
@[simp] theorem State.hostPoke_rx (a v : Byte) (s : State) : (s.hostPoke a v).rx = s.rx := rfl
@[simp] theorem State.hostPoke_choices (a v : Byte) (s : State) : (s.hostPoke a v).choices = s.choices := rfl
@[simp] theorem State.hostPoke_trace (a v : Byte) (s : State) : (s.hostPoke a v).trace = s.trace := rfl

/-! ### The fields a case decides -/

@[simp] theorem State.setTemp_temp (i : Temp) (v : Byte) (s : State) : (s.setTemp i v).temp i = v := by cases i <;> rfl

theorem State.setTemp_temp_of_ne (i j : Temp) (v : Byte) (s : State) (h : j ≠ i) : (s.setTemp i v).temp j = s.temp j := by
  cases i <;> cases j <;> first | rfl | exact absurd rfl h

@[simp] theorem State.driveLine_cs_cs (d : Dev) (v : Bool) (s : State) : (s.driveLine (.cs d) v).cs = s.cs.set d v := rfl
@[simp] theorem State.driveLine_cs_rs (d : Dev) (v : Bool) (s : State) : (s.driveLine (.cs d) v).rs = s.rs := rfl
@[simp] theorem State.driveLine_rs_cs (v : Bool) (s : State) : (s.driveLine .rs v).cs = s.cs := rfl
@[simp] theorem State.driveLine_rs_rs (v : Bool) (s : State) : (s.driveLine .rs v).rs = v := rfl
@[simp] theorem State.driveLine_rs_periph (v : Bool) (s : State) : (s.driveLine .rs v).periph = s.periph := rfl
@[simp] theorem State.driveLine_cs_periph (d : Dev) (v : Bool) (s : State) :
    (s.driveLine (.cs d) v).periph = s.periph.onLine s.cfg (.cs d) (s.cs.get d) v := rfl

@[simp] theorem PerDev.get_set {α : Type} (v : PerDev α) (d : Dev) (x : α) : (v.set d x).get d = x := by cases d <;> rfl

theorem PerDev.get_set_of_ne {α : Type} (v : PerDev α) (d e : Dev) (x : α) (h : e ≠ d) : (v.set d x).get e = v.get e := by
  cases d <;> cases e <;> first | rfl | exact absurd rfl h

/-! ### What depends on few fields -/

@[simp] theorem State.portCmd_emit (e : Event) (s : State) (p : Port) : (s.emit e).portCmd p = s.portCmd p := rfl

/-- The command of a port depends on the port list alone. -/
theorem State.portCmd_congr (s t : State) (p : Port) (h : t.ports = s.ports) : t.portCmd p = s.portCmd p := by
  simp only [State.portCmd, h]

/-- Whether a port is to be answered by `Immediate` depends on the port list and the owner. -/
theorem State.immediatePending_congr (s t : State) (p : Port) (h : t.ports = s.ports) (ho : t.owner = s.owner) :
    t.immediatePending p = s.immediatePending p := by
  simp only [State.immediatePending, State.portCmd_congr s t p h, ho]

/-- Whether another port competes depends on the port list and the owner. -/
theorem State.rivalPending_congr (s t : State) (p : Port) (h : t.ports = s.ports) (ho : t.owner = s.owner) :
    t.rivalPending p = s.rivalPending p := by
  simp only [State.rivalPending, State.immediatePending_congr s t _ h ho]

/-- Which lines are active depends on the levels and the configuration. -/
theorem State.selected_congr (s t : State) (d : Dev) (h : t.cs = s.cs) (hc : t.cfg = s.cfg) : t.selected d = s.selected d := by
  simp only [State.selected, h, hc]

end Sys2Proof.Machine
end

