-- ==== Sys2Proof/Laws/Ops.lean ====
section
/-! SUPPORT. What each shared operation can do, said once: the steps of the outside agents, the choice of the port, the
micro-operations, the run of a bus operation, the meaning of a command by its class, and the step. Later proofs cite these
and unfold none of them. -/

namespace Sys2Proof.Machine

/-- `Issue` answers next only on an idle port that exists, and then it writes the port and the trace (R148). -/
theorem State.hostIssue_next (p : Port) (w : Word) (s t : State) (h : s.hostIssue p w = .next t) :
    p.val < s.ports.length ∧ s.portCmd p = none ∧ t = (s.setPort p (some w)).emit (.cmd p w) := by
  unfold State.hostIssue at h
  split at h
  · split at h
    · cases h; exact ⟨‹_›, ‹_›, rfl⟩
    · cases h
  · cases h

/-- `Issue` is no fault. -/
theorem State.hostIssue_ne_fault (p : Port) (w : Word) (s : State) (f : Fault) : s.hostIssue p w ≠ .fault f := by
  unfold State.hostIssue
  split
  · split <;> intro h <;> cases h
  · intro h; cases h

/-- The lowest port with a property: it has it, and no lower port does. -/
theorem lowestPort_some (f : Port → Bool) (p : Port) (h : lowestPort f = some p) : f p = true ∧ ∀ q, q < p → f q = false := by
  unfold lowestPort allPorts at h
  have hs := List.find?_some h
  refine ⟨hs, fun q hq => ?_⟩
  obtain ⟨_, as, bs, heq, has⟩ := List.find?_eq_some_iff_append.mp h
  have hmem : q ∈ as ++ p :: bs := heq ▸ List.mem_finRange q
  rw [List.mem_append] at hmem
  cases hmem with
  | inl hm => simpa using has q hm
  | inr hm =>
    have hpw : (as ++ p :: bs).Pairwise (· < ·) := heq ▸ List.pairwise_lt_finRange 8
    have hpb := (List.pairwise_append.mp hpw).2.1
    rw [List.pairwise_cons] at hpb
    rw [List.mem_cons] at hm
    cases hm with
    | inl he => exact absurd hq (by rw [he]; exact Fin.lt_irrefl p)
    | inr hb => exact absurd (Fin.lt_def.mp (hpb.1 q hb)) (by have := Fin.lt_def.mp hq; omega)

/-- No port has the property. -/
theorem lowestPort_none (f : Port → Bool) (h : lowestPort f = none) (p : Port) : f p = false := by
  have := List.find?_eq_none.mp h p (List.mem_finRange p)
  simpa using this

/-- What an `Immediate` step asks of a port (R133). -/
theorem State.immediatePending_true (s : State) (p : Port) (h : s.immediatePending p = true) :
    ∃ w, s.portCmd p = some w ∧ classify w ≠ .bus ∧ s.owner ≠ some p := by
  unfold State.immediatePending at h
  split at h
  · rename_i w hw
    simp only [Bool.and_eq_true, decide_eq_true_eq] at h
    exact ⟨w, hw, h.1, h.2⟩
  · cases h

/-- What a grant asks of a port (R132). -/
theorem State.busPending_true (s : State) (p : Port) (h : s.busPending p = true) :
    ∃ w, s.portCmd p = some w ∧ classify w = .bus := by
  unfold State.busPending at h
  split at h
  · rename_i w hw
    simp only [decide_eq_true_eq] at h
    exact ⟨w, hw, h⟩
  · cases h

/-- The sequencer's port is the owner, or with no owner the lowest with a bus command. -/
theorem State.busTurn_some (s : State) (p : Port) (h : s.busTurn = some p) :
    s.owner = some p ∨ (s.owner = none ∧ s.busPending p = true ∧ ∀ q, q < p → s.busPending q = false) := by
  unfold State.busTurn at h
  split at h
  · cases h; exact .inl ‹_›
  · exact .inr ⟨‹_›, lowestPort_some _ _ h⟩

/-- The port served next: the state changes by `serving` and the used choice only; and the port has an `Immediate` step, or
is the owner, or holds a bus command while the bus is free. -/
theorem State.turn_some (s t : State) (p : Port) (h : s.turn = some (p, t)) :
    t = { s with serving := p, choices := s.choices.tail }
    ∧ (s.immediatePending p = true ∨ s.owner = some p ∨ (s.owner = none ∧ s.busPending p = true)) := by
  have bus : ∀ q, s.busTurn = some q → s.immediatePending q = true ∨ s.owner = some q ∨ (s.owner = none ∧ s.busPending q = true) := by
    intro q hq
    cases s.busTurn_some q hq with
    | inl ho => exact .inr (.inl ho)
    | inr hb => exact .inr (.inr ⟨hb.1, hb.2.1⟩)
  unfold State.turn at h
  split at h
  · rename_i q hq
    simp only [Option.some.injEq, Prod.mk.injEq] at h
    obtain ⟨rfl, rfl⟩ := h
    refine ⟨rfl, ?_⟩
    split at hq
    · rename_i q' hc
      cases hq
      unfold State.chosenPort at hc
      split at hc
      · exact bus _ hc
      · split at hc
        · cases hc; exact .inl ‹_›
        · cases hc
      · split at hc
        · cases hc; rename_i hg; exact .inr (.inr ⟨hg.1, hg.2.1⟩)
        · cases hc
      · cases hc
    · unfold State.defaultPort at hq
      split at hq
      · cases hq; exact .inl (lowestPort_some _ _ ‹_›).1
      · exact bus _ hq
  · cases h

/-- The classes of a word by its decoding (R148). -/
theorem classify_bus (w : Word) : classify w = .bus ↔ ∃ i, decode w = .command i ∧ i.operandsOk = true ∧ i.usesBus = true := by
  unfold classify
  split
  · rename_i why hw
    constructor
    · intro h; cases h
    · rintro ⟨i, hi, _⟩; cases hi.symm.trans hw
  · rename_i i hw
    constructor
    · intro h
      refine ⟨i, hw, ?_⟩
      cases ho : i.operandsOk <;> cases hu : i.usesBus <;> simp_all
    · rintro ⟨j, hj, ho, hu⟩
      cases hw.symm.trans hj
      simp [ho, hu]

/-! ### The meaning of a command by its class -/

/-- A bus command with good operands: its meaning runs its micro-sequence (R149). -/
theorem exec_bus (i : Instr) (s : State) (hu : i.usesBus = true) (ho : i.operandsOk = true) :
    exec i s = runBus (microSeq s.cfg i) s := by
  cases i <;> simp_all [Instr.usesBus, Instr.operandsOk, exec, microSeq, execRtcWr, execRtcRd, execRtcBwr, execRtcBrd,
    execRtcTime, execSnsCfg, execSnsRd, execLcdCmd, execLcdDat, execLcdInit, execLcdDraw]

/-- A command whose operand check fails: BAD_OPERAND and nothing else (R232, R233). -/
theorem exec_badOperand (i : Instr) (s : State) (ho : i.operandsOk = false) : exec i s = .next (s.raise .badOperand) := by
  cases i <;> simp_all [Instr.operandsOk, exec, execRtcBwr, execRtcBrd, execLcdDraw, execCrRd]

/-- A command that needs no bus: a response (R133). -/
theorem exec_nonBus (i : Instr) (s : State) (hu : i.usesBus = false) (ho : i.operandsOk = true) :
    ∃ d, exec i s = .next (s.respond s.serving .ok d) := by
  cases i <;> simp_all [Instr.usesBus, Instr.operandsOk, exec, execFmtTime, execCrRd]
  all_goals exact ⟨_, rfl⟩

/-! ### Micro-operations -/

/-- A micro-operation that moves keeps the configuration, the ports, the ownership and the outside agents' schedule, and
advances `upc` by one or not at all. -/
theorem State.microTick_frame (s t : State) (m : Micro) (h : s.microTick m = .moved t) :
    t.cfg = s.cfg ∧ t.ports = s.ports ∧ t.owner = s.owner ∧ t.op = s.op ∧ t.serving = s.serving ∧ t.inputs = s.inputs
    ∧ t.choices = s.choices ∧ (t.upc = s.upc + 1 ∨ t.upc = s.upc) := by
  cases m <;> simp only [State.microTick] at h
  case cfg d => cases h; simp
  case line l v => cases h; simp
  case delay m =>
    cases h
    refine ⟨by simp, by simp, by simp, by simp, by simp, by simp, by simp, ?_⟩
    unfold State.delayTick
    split
    · exact .inr rfl
    · exact .inl rfl
  case shift o =>
    split at h
    · cases h; simp
    · cases h
  case wait =>
    unfold State.waitTick at h
    split at h
    · cases h; simp
    · split at h
      · split at h
        · cases h; simp
        · cases h
      · cases h
  case takeRx i => cases h; simp
  case drain => cases h; simp
  case memRead a i =>
    split at h
    · cases h; simp
    · cases h
  case memWrite a i =>
    split at h
    · cases h; simp
    · cases h
  case setRes f => cases h; simp
  case respond r =>
    split at h <;> cases h

/-- A micro-operation that responds is `Respond`, of the owner, and the step is the release (R134). -/
theorem State.microTick_responded (s t : State) (m : Micro) (h : s.microTick m = .responded t) :
    ∃ r p, m = .respond r ∧ s.owner = some p ∧ t = s.release p (if r then s.res else 0) := by
  cases m <;> simp only [State.microTick] at h
  case shift o => split at h <;> cases h
  case wait =>
    unfold State.waitTick at h
    split at h
    · cases h
    · split at h
      · split at h <;> cases h
      · cases h
  case memRead a i => split at h <;> cases h
  case memWrite a i => split at h <;> cases h
  case respond r =>
    split at h
    · cases h; exact ⟨r, _, rfl, ‹_›, rfl⟩
    · cases h
  all_goals cases h

/-- A sequencer step that moves is the micro-operation at `upc`, which is one of the sequence. -/
theorem State.seqTick_moved (seq : List Micro) (s t : State) (h : s.seqTick seq = .moved t) :
    ∃ m, seq[s.upc.toNat]? = some m ∧ m ∈ seq ∧ s.microTick m = .moved t := by
  unfold State.seqTick at h
  split at h
  · rename_i m hm; exact ⟨m, hm, List.mem_of_getElem? hm, h⟩
  · cases h

/-- A sequencer step that responds is the `Respond` at `upc`. -/
theorem State.seqTick_responded (seq : List Micro) (s t : State) (h : s.seqTick seq = .responded t) :
    ∃ r p, seq[s.upc.toNat]? = some (.respond r) ∧ s.owner = some p ∧ t = s.release p (if r then s.res else 0) := by
  unfold State.seqTick at h
  split at h
  · rename_i m hm
    obtain ⟨r, p, rfl, ho, rfl⟩ := s.microTick_responded t m h
    exact ⟨r, p, hm, ho, rfl⟩
  · cases h

/-! ### The run of an operation -/

/-- The step on the micro-operations still to be done is the step at `upc`. -/
theorem State.headTick_drop (seq : List Micro) (s : State) : s.headTick (seq.drop s.upc.toNat) = s.seqTick seq := by
  unfold State.headTick State.seqTick
  rw [← List.head?_drop]
  cases seq.drop s.upc.toNat <;> rfl

/-- After a step that moves, the micro-operations still to be done are those from `upc` on. -/
theorem remaining_drop (seq : List Micro) (s t : State) (hl : seq.length < 65536) (h : s.seqTick seq = .moved t) :
    remaining (seq.drop s.upc.toNat) s t = seq.drop t.upc.toNat := by
  obtain ⟨m, hm, _, hmt⟩ := s.seqTick_moved seq t h
  obtain ⟨_, _, _, _, _, _, _, hu⟩ := s.microTick_frame t m hmt
  have hlt : s.upc.toNat < seq.length := by
    by_cases hc : s.upc.toNat < seq.length
    · exact hc
    · rw [List.getElem?_eq_none (by omega)] at hm; cases hm
  have hadd : (s.upc + 1).toNat = s.upc.toNat + 1 := by
    rw [BitVec.toNat_add]
    simp
    omega
  unfold remaining
  cases hu with
  | inl hu =>
    have hne : ¬ t.upc = s.upc := by
      intro he
      have := congrArg BitVec.toNat (hu.symm.trans he)
      omega
    rw [if_neg hne, hu, hadd, List.tail_drop]
  | inr hu => rw [if_pos hu, hu]

/-- The induction over a run of the micro-operations from `upc` on: what `tickPause` and every sequencer step keep holds where
the run stops, if it stops before the response; else it stops with the response, from a state where it held. -/
theorem runSeq_induction (seq : List Micro) (hl : seq.length < 65536) (P : State → Prop) (hp : ∀ s, P s → P s.tickPause)
    (hs : ∀ s t, P s → s.seqTick seq = .moved t → P t) (rival : Bool) (n : Nat) (must : Bool) (s t : State) (h0 : P s)
    (h : runSeq rival n must (seq.drop s.upc.toNat) s = .next t) : P t ∨ ∃ u, P u ∧ u.seqTick seq = .responded t := by
  induction n generalizing must s with
  | zero => cases h; exact .inl h0
  | succ n ih =>
    unfold runSeq at h
    split at h
    · cases h; exact .inl h0
    · have h1 : P (if must then s else s.tickPause) := by
        split
        · exact h0
        · exact hp s h0
      have hu : (if must then s else s.tickPause).upc = s.upc := by split <;> simp
      dsimp only at h
      rw [← hu, State.headTick_drop] at h
      split at h
      · rename_i u hst
        rw [remaining_drop seq _ u hl hst] at h
        exact ih _ _ (hs _ _ h1 hst) h
      · cases h; exact .inr ⟨_, h1, ‹_›⟩
      · cases h; exact .inl h0
      · cases h

/-- The same for faults: a run that faults does so in a sequencer step from a state where the property holds. -/
theorem runSeq_fault (seq : List Micro) (hl : seq.length < 65536) (P : State → Prop) (hp : ∀ s, P s → P s.tickPause)
    (hs : ∀ s t, P s → s.seqTick seq = .moved t → P t) (rival : Bool) (n : Nat) (must : Bool) (s : State) (f : Fault) (h0 : P s)
    (h : runSeq rival n must (seq.drop s.upc.toNat) s = .fault f) : ∃ u, P u ∧ u.seqTick seq = .failed f := by
  induction n generalizing must s with
  | zero => cases h
  | succ n ih =>
    unfold runSeq at h
    split at h
    · cases h
    · have h1 : P (if must then s else s.tickPause) := by
        split
        · exact h0
        · exact hp s h0
      have hu : (if must then s else s.tickPause).upc = s.upc := by split <;> simp
      dsimp only at h
      rw [← hu, State.headTick_drop] at h
      split at h
      · rename_i u hst
        rw [remaining_drop seq _ u hl hst] at h
        exact ih _ _ (hs _ _ h1 hst) h
      · cases h
      · cases h
      · cases h; exact ⟨_, h1, ‹_›⟩

/-- A run is never refused. -/
theorem runSeq_ne_refused (rival : Bool) (n : Nat) (must : Bool) (rest : List Micro) (s : State) (r : Refusal) :
    runSeq rival n must rest s ≠ .refused r := by
  induction n generalizing must rest s with
  | zero => intro h; cases h
  | succ n ih =>
    unfold runSeq
    split
    · intro h; cases h
    · dsimp only
      split
      · exact ih _ _ _
      all_goals intro h; cases h

/-- The life of a bus operation (R149): pending on a free bus it is granted and runs from the first micro-operation; its port
owning the bus, it goes on from `upc`; while another port owns the bus nothing happens. -/
theorem runBus_cases (seq : List Micro) (s : State) :
    (s.owner = none ∧ runBus seq s = runSeq ((s.grant s.serving).rivalPending s.serving) (fuelFor seq) false
        (seq.drop (s.grant s.serving).upc.toNat) (s.grant s.serving))
    ∨ (s.owner = some s.serving ∧
        runBus seq s = runSeq (s.rivalPending s.serving) (fuelFor seq) true (seq.drop s.upc.toNat) s)
    ∨ (∃ p, s.owner = some p ∧ p ≠ s.serving ∧ runBus seq s = .next s) := by
  unfold runBus
  split
  · exact .inl ⟨‹_›, rfl⟩
  · rename_i p hp
    by_cases hq : p = s.serving
    · subst hq; exact .inr (.inl ⟨hp, if_pos rfl⟩)
    · exact .inr (.inr ⟨p, hp, hq, if_neg hq⟩)

/-! ### The step -/

/-- The block's step: nothing to do; an illegal word answered; or the meaning of a command. A fault only if the port served
holds nothing. -/
theorem State.serve_cases (s : State) :
    (s.turn = none ∧ s.serve = .next s)
    ∨ ∃ p t, s.turn = some (p, t) ∧
      ((t.portCmd p = none ∧ s.serve = .fault .sequencerLost)
      ∨ (∃ w why, t.portCmd p = some w ∧ decode w = .illegal why ∧ s.serve = .next (t.raise .illegalCommand))
      ∨ ∃ w i, t.portCmd p = some w ∧ decode w = .command i ∧ s.serve = exec i t) := by
  unfold State.serve
  cases ht : s.turn with
  | none => exact .inl ⟨rfl, rfl⟩
  | some a =>
    obtain ⟨p, t⟩ := a
    refine .inr ⟨p, t, rfl, ?_⟩
    dsimp only
    cases hc : t.portCmd p with
    | none => exact .inl ⟨rfl, rfl⟩
    | some w =>
      dsimp only
      cases hd : decode w with
      | illegal why => exact .inr (.inl ⟨w, why, rfl, hd, rfl⟩)
      | command i => exact .inr (.inr ⟨w, i, rfl, hd, rfl⟩)

/-- The step: an act of an outside agent, or the block's step with a `pause` used up. -/
theorem step_cases (s : State) :
    (∃ p w r, s.inputs = .issue p w :: r ∧ step s = State.hostIssue p w { s with inputs := r })
    ∨ (∃ a v r, s.inputs = .poke a v :: r ∧ step s = .next (State.hostPoke a v { s with inputs := r }))
    ∨ (∃ r, s.inputs = .reset :: r ∧ step s = .next (State.resetBlock { s with inputs := r }))
    ∨ (∃ p r, s.inputs = .await p :: r ∧ s.portCmd p = none ∧ step s = .next { s with inputs := r })
    ∨ (s.actDue = false ∧ step s = s.tickPause.serve) := by
  unfold step State.stepOnce State.actDue State.tickPause
  cases hi : s.inputs with
  | nil => exact .inr (.inr (.inr (.inr ⟨rfl, rfl⟩)))
  | cons a r =>
    cases a with
    | pause => exact .inr (.inr (.inr (.inr ⟨rfl, rfl⟩)))
    | await p =>
      by_cases hp : s.portCmd p = none
      · exact .inr (.inr (.inr (.inl ⟨p, r, rfl, hp, if_pos hp⟩)))
      · exact .inr (.inr (.inr (.inr ⟨by simp [hp], if_neg hp⟩)))
    | issue p w => exact .inl ⟨p, w, r, rfl, rfl⟩
    | poke a v => exact .inr (.inl ⟨a, v, r, rfl, rfl⟩)
    | reset => exact .inr (.inr (.inl ⟨r, rfl, rfl⟩))

end Sys2Proof.Machine
end

