-- ==== Sys2Proof/Laws/PerInstr.lean ====
section
/-! SUPPORT. Statements made command by command, one lemma for each constructor of Instr. -/

namespace Sys2Proof.Laws

/-- The word of a command carries the command's opcode in `OP` and 0 in `RSV` (R100, R103, R111). -/
def EncodedOpcode.Statement (i : Instr) : Prop := wordOp (encode i) = i.opcode ∧ wordRsv (encode i) = 0

theorem EncodedOpcode.rtcWr (a b : Byte) : EncodedOpcode.Statement (Instr.rtcWr a b) :=
  ⟨wordOp_encodeFields _ _ _ _, wordRsv_encodeFields _ _ _ _⟩
theorem EncodedOpcode.rtcRd (a : Byte) : EncodedOpcode.Statement (Instr.rtcRd a) :=
  ⟨wordOp_encodeFields _ _ _ _, wordRsv_encodeFields _ _ _ _⟩
theorem EncodedOpcode.rtcBwr (a b c : Byte) : EncodedOpcode.Statement (Instr.rtcBwr a b c) :=
  ⟨wordOp_encodeFields _ _ _ _, wordRsv_encodeFields _ _ _ _⟩
theorem EncodedOpcode.rtcBrd (a b c : Byte) : EncodedOpcode.Statement (Instr.rtcBrd a b c) :=
  ⟨wordOp_encodeFields _ _ _ _, wordRsv_encodeFields _ _ _ _⟩
theorem EncodedOpcode.rtcTime : EncodedOpcode.Statement Instr.rtcTime :=
  ⟨wordOp_encodeFields _ _ _ _, wordRsv_encodeFields _ _ _ _⟩
theorem EncodedOpcode.fmtTime (a : Byte) : EncodedOpcode.Statement (Instr.fmtTime a) :=
  ⟨wordOp_encodeFields _ _ _ _, wordRsv_encodeFields _ _ _ _⟩
theorem EncodedOpcode.snsCfg : EncodedOpcode.Statement Instr.snsCfg :=
  ⟨wordOp_encodeFields _ _ _ _, wordRsv_encodeFields _ _ _ _⟩
theorem EncodedOpcode.snsRd : EncodedOpcode.Statement Instr.snsRd :=
  ⟨wordOp_encodeFields _ _ _ _, wordRsv_encodeFields _ _ _ _⟩
theorem EncodedOpcode.lcdCmd (a : Byte) : EncodedOpcode.Statement (Instr.lcdCmd a) :=
  ⟨wordOp_encodeFields _ _ _ _, wordRsv_encodeFields _ _ _ _⟩
theorem EncodedOpcode.lcdDat (a : Byte) : EncodedOpcode.Statement (Instr.lcdDat a) :=
  ⟨wordOp_encodeFields _ _ _ _, wordRsv_encodeFields _ _ _ _⟩
theorem EncodedOpcode.lcdInit : EncodedOpcode.Statement Instr.lcdInit :=
  ⟨wordOp_encodeFields _ _ _ _, wordRsv_encodeFields _ _ _ _⟩
theorem EncodedOpcode.lcdDraw (a b c : Byte) : EncodedOpcode.Statement (Instr.lcdDraw a b c) :=
  ⟨wordOp_encodeFields _ _ _ _, wordRsv_encodeFields _ _ _ _⟩
theorem EncodedOpcode.crRd (a : Byte) : EncodedOpcode.Statement (Instr.crRd a) :=
  ⟨wordOp_encodeFields _ _ _ _, wordRsv_encodeFields _ _ _ _⟩

end Sys2Proof.Laws
end

