-- ==== Sys2Proof/Laws/Run.lean ====
section
/-! SUPPORT. The undisturbed run of an operation. `fastMicro` is a whole micro-operation (a `Delay` with its holding, a `Wait`
with the completion it waits for), `fastRun` a list of them; where no other agent or port is due, a meaning is `fastRun` of
its micro-sequence and then the release (`runBus_ready`). -/

namespace Sys2Proof.Machine

/-- A whole micro-operation, when nothing else happens. `Respond` is none: it ends the operation. -/
def fastMicro (s : State) : Micro → Option State
  | .cfg d => some (s.loadMode d).advance
  | .line l level => some (s.driveLine l level).advance
  | .delay m => some (State.emit (.delay m) { s with dly := 0 }).advance
  | .shift out => if s.shiftAllowed then some (s.startShift (s.source out)).advance else none
  | .wait =>
    if s.done then some s.advance
    else if s.busy then
      match s.nextAnswer with
      | some (b, r) => some ({ s with rx := r }.complete b).advance
      | none => none
    else none
  | .takeRx i => some (s.setTemp i s.rxhold).clearDone.advance
  | .drain => some s.clearDone.advance
  | .memRead a i =>
    if a < dmemSize then some ((s.setTemp i (s.dmem.read a)).emit (.memRead a (s.dmem.read a))).advance else none
  | .memWrite a i =>
    if a < dmemSize then some (State.emit (.memWrite a (s.temp i)) { s with dmem := s.dmem.write a (s.temp i) }).advance
    else none
  | .setRes f => some (s.setRes (s.result f)).advance
  | .respond _ => none

/-- Whole micro-operations in order. -/
def fastRun : List Micro → State → Option State
  | [], s => some s
  | m :: ms, s =>
    match fastMicro s m with
    | some t => fastRun ms t
    | none => none

theorem fastRun_cons (m : Micro) (ms : List Micro) (s : State) :
    fastRun (m :: ms) s = (fastMicro s m).bind (fastRun ms) := by
  simp only [fastRun]
  cases fastMicro s m <;> rfl

theorem fastRun_append (a b : List Micro) (s : State) : fastRun (a ++ b) s = (fastRun a s).bind (fastRun b) := by
  induction a generalizing s with
  | nil => rfl
  | cons m a ih =>
    rw [List.cons_append, fastRun_cons, fastRun_cons]
    cases fastMicro s m with
    | none => rfl
    | some t => exact ih t

/-- What a whole micro-operation leaves alone, and that it counts one. -/
theorem fastMicro_frame (s t : State) (m : Micro) (h : fastMicro s m = some t) (hd : s.dly = 0) :
    t.ports = s.ports ∧ t.owner = s.owner ∧ t.inputs = s.inputs ∧ t.upc = s.upc + 1 ∧ t.dly = 0
      ∧ t.serving = s.serving ∧ t.cfg = s.cfg ∧ t.choices = s.choices ∧ t.op = s.op := by
  cases m <;> simp only [fastMicro] at h
  case cfg d => cases h; simp [hd]
  case line l v => cases h; simp [hd]
  case delay m => cases h; simp
  case shift o =>
    split at h
    · cases h; simp [hd]
    · cases h
  case wait =>
    split at h
    · cases h; simp [hd]
    · split at h
      · split at h
        · cases h; simp [hd]
        · cases h
      · cases h
  case takeRx i => cases h; simp [hd]
  case drain => cases h; simp [hd]
  case memRead a i =>
    split at h
    · cases h; simp [hd]
    · cases h
  case memWrite a i =>
    split at h
    · cases h; simp [hd]
    · cases h
  case setRes f => cases h; simp [hd]
  case respond r => cases h

/-- With nothing else due, one step of the run is one step of the sequencer. -/
theorem runSeq_calm (n : Nat) (must : Bool) (rest : List Micro) (s : State) (hi : s.inputs = []) :
    runSeq false (n + 1) must rest s =
      match s.headTick rest with
      | .moved t => runSeq false n false (remaining rest s t) t
      | .responded t => .next t
      | .holds => .next s
      | .failed f => .fault f := by
  have ht : s.tickPause = s := by simp [State.tickPause, hi]
  have ha : s.actDue = false := by simp [State.actDue, hi]
  rw [runSeq]
  cases must <;> cases hh : s.headTick rest <;> simp only [ha, ht, hh, Bool.or_self, Bool.and_false, Bool.not_true,
    Bool.false_eq_true, if_false, if_true]

/-- A micro-operation that completes leaves the ones after it. -/
theorem remaining_completed (m : Micro) (ms : List Micro) (s t : State) (h : t.upc = s.upc + 1) :
    remaining (m :: ms) s t = ms := by
  have hne : ¬ s.upc + 1 = s.upc := by
    intro he
    have := congrArg BitVec.toNat he
    rw [BitVec.toNat_add] at this
    simp at this
    omega
  simp only [remaining, h, hne, if_false, List.tail_cons]

/-- A step that completes none leaves them all. -/
theorem remaining_held (rest : List Micro) (s t : State) (h : t.upc = s.upc) : remaining rest s t = rest := if_pos h

/-- A whole micro-operation is one or two steps of the run. -/
theorem runSeq_fastMicro (ms : List Micro) (s t : State) (m : Micro) (hi : s.inputs = []) (hd : s.dly = 0)
    (h : fastMicro s m = some t) :
    ∃ k, k ≤ 2 ∧ ∀ n must, runSeq false (n + k) must (m :: ms) s = runSeq false n false ms t := by
  have key : ∀ u, s.microTick m = .moved u → ∀ n must,
      runSeq false (n + 1) must (m :: ms) s = runSeq false n false (remaining (m :: ms) s u) u := by
    intro u hu n must
    rw [runSeq_calm n must _ s hi]
    simp only [State.headTick, hu]
  have one : s.microTick m = .moved t → t.upc = s.upc + 1 →
      ∃ k, k ≤ 2 ∧ ∀ n must, runSeq false (n + k) must (m :: ms) s = runSeq false n false ms t :=
    fun hu hc => ⟨1, by omega, fun n must => by rw [key t hu, remaining_completed m ms s t hc]⟩
  have two : ∀ u, s.microTick m = .moved u → u.inputs = [] → u.upc = s.upc → u.microTick m = .moved t → t.upc = u.upc + 1 →
      ∃ k, k ≤ 2 ∧ ∀ n must, runSeq false (n + k) must (m :: ms) s = runSeq false n false ms t := by
    intro u hu hui huc hut htc
    refine ⟨2, Nat.le_refl 2, fun n must => ?_⟩
    rw [show n + 2 = (n + 1) + 1 from rfl, key u hu (n + 1) must, remaining_held _ s u huc, runSeq_calm n false _ u hui]
    simp only [State.headTick, hut, remaining_completed m ms u t htc]
  cases m <;> simp only [fastMicro] at h
  case cfg d => cases h; exact one rfl (by simp)
  case line l v => cases h; exact one rfl (by simp)
  case delay m =>
    cases h
    by_cases hz : marginTime s.cfg m = 0
    · exact one (by simp [State.microTick, State.delayTick, hz]) (by simp)
    · exact two { s with dly := marginTime s.cfg m } (by simp [State.microTick, State.delayTick, hz, hd]) hi rfl
        (by simp [State.microTick, State.delayTick, hz]) (by simp)
  case shift o =>
    split at h
    · cases h; rename_i ha; exact one (by simp [State.microTick, ha]) (by simp)
    · cases h
  case wait =>
    split at h
    · cases h; rename_i hdn; exact one (by simp [State.microTick, State.waitTick, hdn]) (by simp)
    · rename_i hdn
      split at h
      · rename_i hb
        split at h
        · rename_i b r hn
          cases h
          exact two ({ s with rx := r }.complete b) (by simp [State.microTick, State.waitTick, hdn, hb, hn]) (by simpa using hi)
            (by simp) (by simp [State.microTick, State.waitTick]) (by simp)
        · cases h
      · cases h
  case takeRx i => cases h; exact one rfl (by simp)
  case drain => cases h; exact one rfl (by simp)
  case memRead a i =>
    split at h
    · cases h; rename_i ha; exact one (by simp [State.microTick, ha]) (by simp)
    · cases h
  case memWrite a i =>
    split at h
    · cases h; rename_i ha; exact one (by simp [State.microTick, ha]) (by simp)
    · cases h
  case setRes f => cases h; exact one rfl (by simp)
  case respond r => cases h

/-- The same of a list of them, before whatever comes after. -/
theorem runSeq_fastRun (ms rest : List Micro) (s t : State) (hi : s.inputs = []) (hd : s.dly = 0) (h : fastRun ms s = some t) :
    ∃ k, k ≤ 2 * ms.length ∧ (∀ n must, ∃ m', runSeq false (n + k) must (ms ++ rest) s = runSeq false n m' rest t)
      ∧ t.ports = s.ports ∧ t.owner = s.owner ∧ t.inputs = s.inputs ∧ t.dly = 0
      ∧ t.serving = s.serving ∧ t.cfg = s.cfg ∧ t.choices = s.choices ∧ t.op = s.op := by
  induction ms generalizing s with
  | nil =>
    cases h
    exact ⟨0, Nat.le_refl 0, fun n must => ⟨must, rfl⟩, rfl, rfl, rfl, hd, rfl, rfl, rfl, rfl⟩
  | cons m ms ih =>
    rw [fastRun_cons] at h
    cases hf : fastMicro s m with
    | none => rw [hf] at h; cases h
    | some u =>
      rw [hf] at h
      obtain ⟨hp, ho, hin, hu, hdu, hsv, hcf, hch, hop⟩ := fastMicro_frame s u m hf hd
      obtain ⟨k1, hk1, hrun1⟩ := runSeq_fastMicro (ms ++ rest) s u m hi hd hf
      obtain ⟨k2, hk2, hrun2, hp2, ho2, hi2, hd2, hsv2, hcf2, hch2, hop2⟩ := ih u (hin ▸ hi) hdu h
      refine ⟨k2 + k1, by simp only [List.length_cons]; omega, ?_, hp2.trans hp, ho2.trans ho, hi2.trans hin, hd2, hsv2.trans hsv,
        hcf2.trans hcf, hch2.trans hch, hop2.trans hop⟩
      intro n must
      obtain ⟨m', hr⟩ := hrun2 n false
      exact ⟨m', by rw [← Nat.add_assoc, List.cons_append, hrun1, hr]⟩

/-- An undisturbed operation granted on a free bus: its meaning is the whole of its micro-sequence and then the release. -/
theorem runBus_ready (body : List Micro) (withRes : Bool) (s t : State) (ho : s.owner = none) (hi : s.inputs = [])
    (hr : s.rivalPending s.serving = false) (hd : s.dly = 0) (h : fastRun body (s.grant s.serving) = some t) :
    runBus (body ++ [.respond withRes]) s = .next (t.release s.serving (if withRes then t.res else 0)) := by
  have hy : (s.grant s.serving).rivalPending s.serving = false := by
    rw [← hr]
    simp only [State.rivalPending]
    congr 1
    funext q
    by_cases hq : q = s.serving
    · simp [hq]
    · have : (some s.serving ≠ some q) := fun e => hq (Option.some.inj e).symm
      simp [hq, State.immediatePending, ho, State.portCmd, Ne.symm hq]
  obtain ⟨k, hk, hrun, _, ho2, hi2, _⟩ :=
    runSeq_fastRun body [.respond withRes] (s.grant s.serving) t (by simpa using hi) (by simpa using hd) h
  have hfuel : fuelFor (body ++ [Micro.respond withRes]) = (fuelFor (body ++ [Micro.respond withRes]) - k - 1 + 1) + k := by
    simp only [fuelFor, List.length_append, List.length_singleton]
    omega
  unfold runBus
  rw [ho]
  simp only
  rw [hy, hfuel]
  obtain ⟨m', hr'⟩ := hrun (fuelFor (body ++ [Micro.respond withRes]) - k - 1 + 1) false
  rw [hr', runSeq_calm _ _ _ _ (by rw [hi2]; simpa using hi)]
  simp only [State.headTick, State.microTick, ho2, State.grant_owner]

end Sys2Proof.Machine
end

