-- ==== Sys2Proof/Tests/Slice0.lean ====
section
/-! SUPPORT. Tests: the checks of WellFormed on ill-formed terms, words decoded, vectors of 95_test_vectors.md as single
steps, and for each obligation with hypotheses a witness that meets them. Expected values are the spec's. -/

namespace Sys2Proof.Tests

open Sys2Proof Sys2Proof.Machine

/-! ### Helpers -/

/-- After reset, with one command on port 0 and the environment's answers given. -/
def ready (i : Instr) (rx : List Answer) : State := { State.reset with ports := [some (encode i), none], rx := rx }

/-- After reset, a command of port 0 owning the bus at the micro-operation `upc` of the RTC, its device selected. -/
def running (i : Instr) (upc : BitVec 16) (busy : Bool) (rx : List Answer) : State :=
  { ready i rx with
    owner := some 0, op := i.opcode, upc := upc, busy := busy
    spmode := ⟨0, true, true, 0⟩, cs := ⟨true, true, true⟩ }

/-- A value of the next state, if the outcome is one. -/
def after {α : Type} (f : State → α) (o : Host.Outcome State Fault Refusal) : Option α :=
  match o with
  | .next t => some (f t)
  | .fault _ => none
  | .refused _ => none

/-- The outcome is a next state. -/
def isNext (o : Host.Outcome State Fault Refusal) : Bool := (after (fun _ => ()) o).isSome

/-- The last response in the trace. -/
def lastResponse (s : State) : Option Word :=
  match s.trace.getLast? with
  | some (.rsp _ r) => some r
  | _ => none

theorem of_isNext (o : Host.Outcome State Fault Refusal) (h : isNext o = true) : ∃ t, o = .next t := by
  cases o with
  | next t => exact ⟨t, rfl⟩
  | fault f => cases h
  | refused r => cases h

theorem of_after {α : Type} (f : State → α) (o : Host.Outcome State Fault Refusal) (v : α) (h : after f o = some v) :
    ∃ t, o = .next t ∧ f t = v := by
  cases o with
  | next t => exact ⟨t, rfl, Option.some.inj h⟩
  | fault e => cases h
  | refused r => cases h

/-! ### WellFormed refuses (R232) -/

theorem test_wf_rtcBwr_count_zero : (Instr.rtcBwr 0x20 0x00 0).wellFormed = false := by decide
theorem test_wf_rtcBwr_past_dmem : (Instr.rtcBwr 0xFF 0x00 2).wellFormed = false := by decide
theorem test_wf_rtcBrd_count_zero : (Instr.rtcBrd 0x20 0x00 0).wellFormed = false := by decide
theorem test_wf_rtcBrd_past_dmem : (Instr.rtcBrd 0xFE 0x00 3).wellFormed = false := by decide
theorem test_wf_lcdDraw_line1 : (Instr.lcdDraw 0xF1 0x00 0x00).wellFormed = false := by decide
theorem test_wf_lcdDraw_line2 : (Instr.lcdDraw 0x00 0xF1 0x00).wellFormed = false := by decide
theorem test_wf_lcdDraw_line3 : (Instr.lcdDraw 0x00 0x00 0xF1).wellFormed = false := by decide
theorem test_wf_crRd_five : (Instr.crRd 5).wellFormed = false := by decide
theorem test_wf_extremes : (Instr.rtcBwr 0x00 0xFF 255).wellFormed = true ∧ (Instr.rtcBrd 0x01 0x7F 255).wellFormed = true
    ∧ (Instr.lcdDraw 0xF0 0xF0 0xF0).wellFormed = true ∧ (Instr.crRd 4).wellFormed = true := by decide

/-! ### Words written out from the encoding (R100, R102, R108; 95_test_vectors.md 2.1), every constructor -/

theorem test_decode_rtcWr : decodeTableWord 32 0b00010000000000001111111111111110 = some (.rtcWr 0xFF 0xFE) := by decide
theorem test_decode_rtcRd : decodeTableWord 32 0b00100000000000000111111100000000 = some (.rtcRd 0x7F) := by decide
theorem test_decode_rtcBwr : decodeTableWord 32 0b00110000000000001111111111111101 = some (.rtcBwr 0x00 0xFF 0xFD) := by decide
theorem test_decode_rtcBrd : decodeTableWord 32 0b01000000000000010111111111111111 = some (.rtcBrd 0x01 0x7F 255) := by decide
theorem test_decode_rtcTime : decodeTableWord 32 0b01010000000000000000000000000000 = some .rtcTime := by decide
theorem test_decode_fmtTime : decodeTableWord 32 0b01100000000000000000000010100101 = some (.fmtTime 0xA5) := by decide
theorem test_decode_snsCfg : decodeTableWord 32 0b01110000000000000000000000000000 = some .snsCfg := by decide
theorem test_decode_snsRd : decodeTableWord 32 0b10000000000000000000000000000000 = some .snsRd := by decide
theorem test_decode_lcdCmd : decodeTableWord 32 0b10010000000000000000000000111001 = some (.lcdCmd 0x39) := by decide
theorem test_decode_lcdDat : decodeTableWord 32 0b10100000000000000000000000110001 = some (.lcdDat 0x31) := by decide
theorem test_decode_lcdInit : decodeTableWord 32 0b10110000000000000000000000000000 = some .lcdInit := by decide
theorem test_decode_lcdDraw : decodeTableWord 32 0b11000000111100001110000011010000 = some (.lcdDraw 0xF0 0xE0 0xD0) := by decide
theorem test_decode_crRd : decodeTableWord 32 0b11010000000000000000000000000100 = some (.crRd 4) := by decide

/-- V50 to V55: the reserved opcodes, `RSV`, a byte the format does not use. -/
theorem test_illegal_words : decode 0x00000000 = .illegal (.reservedOpcode 0) ∧ decode 0xFFFFFFFF = .illegal (.reservedOpcode 15)
    ∧ decode 0xE0000000 = .illegal (.reservedOpcode 14) ∧ decode 0x0000000D = .illegal (.reservedOpcode 0)
    ∧ decode 0x11000000 = .illegal .reservedField ∧ decode 0x10010212 = .illegal .unusedOperand := by decide
/-- V56 to V61. -/
theorem test_illegal_operands : decode 0x20000201 = .illegal .unusedOperand ∧ decode 0x50000001 = .illegal .unusedOperand
    ∧ decode 0x60000100 = .illegal .unusedOperand ∧ decode 0x80010000 = .illegal .unusedOperand
    ∧ decode 0xA0010000 = .illegal .unusedOperand ∧ decode 0xD0000100 = .illegal .unusedOperand := by decide

/-- V1, V14, V15: the assembler (R110, R112). -/
theorem test_assemble : (assembleLine Config.refcfg "RTC_WR 0x82, 0x12").toOption = some (some (0, .rtcWr 0x82 0x12))
    ∧ (assembleLine Config.refcfg "LCD_DRAW48 0x40").toOption = some (some (0, .lcdDraw 0x40 0x50 0x60))
    ∧ (assembleLine Config.refcfg "RTC_RD_HR").toOption = some (some (0, .rtcRd 0x02)) := by decide
/-- R111: an operand that does not fit in 8 bits; R112: a buffer above 208. -/
theorem test_assemble_errors : (assembleLine Config.refcfg "LCD_CMD 256").toOption = none
    ∧ (assembleLine Config.refcfg "LCD_DRAW48 209").toOption = none := by decide

/-- P8 and R110: port 0's line waits for port 0 alone, not for the line of port 1 before it; P5 (a): issued after some steps. -/
theorem test_program_two_ports :
    (programInputs Config.refcfg [(1, 0), (0, 2)] ["p1: RTC_RD 0x02", "p0: CR_RD 1"]).toOption =
      some [.await 1, .issue 1 0x20000200, .pause, .pause, .await 0, .issue 0 0xD0000001] := by decide
/-- R111: a program with a line that does not assemble is an error. -/
theorem test_program_error : (programInputs Config.refcfg [(0, 0)] ["CR_RD 1", "LCD_CMD 256"]).toOption = none := by decide

/-! ### Operands (95_test_vectors.md 2.2 to 2.4) -/

/-- V17, V18, V19. -/
theorem test_tags : tagW Config.refcfg 0x02 = 0x82 ∧ tagR Config.refcfg 0x82 = 0x02 ∧ tagW Config.refcfg 0x7F = 0xFF
    ∧ tagR Config.refcfg 0xFF = 0x7F := by decide
/-- V24, V27, V29, V31, V32. -/
theorem test_bcd : bcdToDecimal 0x23 = 23 ∧ bcdToDecimal 0x59 = 59 ∧ bcdToDecimal 0x0A = 10 ∧ bcdToDecimal 0xA0 = 100
    ∧ bcdToDecimal 0xFF = 165 := by decide
/-- V44, V46, V47. -/
theorem test_sample : sampleData 0x1A 0x2B 0x66 0x54 = 0x68AD995 ∧ sampleData 0x20 0x00 0x80 0x00 = 0x8002000
    ∧ sampleData 0x7F 0xFE 0x00 0x03 = 0xFFF8000 := by decide

/-! ### One step of each command -/

/-- P1 step 1 (REFCFG, reference environment): the trace of RTC_WR. -/
theorem test_rtcWr_trace : after State.trace (step (State.reset.withFetchWord 32 0x10008212)) =
    some [.modeLoad .rtc, .cs .rtc true, .delay (.setup .rtc), .exch 0x82 0x00, .exch 0x12 0x00, .delay (.hold .rtc),
      .cs .rtc false, .delay (.settle .rtc), .rsp 0 0x00000000] := by decide
/-- P1 step 1: `DONE = 1` and RTC-ref holds the byte. -/
theorem test_rtcWr_state : after (fun t => (t.done, t.periph.rtc.reg)) (step (State.reset.withFetchWord 32 0x10008212)) =
    some (true, [(2, 0x12)]) := by decide
/-- R174: the byte of the second exchange is the result. -/
theorem test_rtcRd : after (fun t => (lastResponse t, t.done)) (step (ready (.rtcRd 0x02) [.byte 0xAA, .byte 0x12])) =
    some (some 0x00000012, false) := by decide
/-- V64: `RTC_BWR` with `C + B = 256`: one DMEM read at 0xFF, bytes out 80 and that byte. -/
theorem test_rtcBwr : after State.trace (step { ready (.rtcBwr 0xFF 0x00 1) [] with dmem := [(0xFF, 0x77)] }) =
    some [.modeLoad .rtc, .cs .rtc true, .delay (.setup .rtc), .exch 0x80 0x00, .memRead 0xFF 0x77, .exch 0x77 0x00,
      .delay (.hold .rtc), .cs .rtc false, .delay (.settle .rtc), .rsp 0 0x00000000] := by decide
/-- V63. -/
theorem test_rtcBwr_bad : after State.trace (step (ready (.rtcBwr 0xFF 0x00 2) [])) = some [.rsp 0 0x20000000] := by decide
/-- P6 step 2, two bytes of it: DMEM after RTC_BRD. -/
theorem test_rtcBrd : after (fun t => (t.dmem, lastResponse t))
    (step (ready (.rtcBrd 0x10 0x00 2) [.byte 0x00, .byte 0x56, .byte 0x34])) =
    some ([(0x10, 0x56), (0x11, 0x34)], some 0x00000000) := by decide
/-- V65. -/
theorem test_rtcBrd_bad : after State.trace (step (ready (.rtcBrd 0xFE 0x00 3) [])) = some [.rsp 0 0x20000000] := by decide
/-- P2 step 1: hours, minutes, seconds packed. -/
theorem test_rtcTime : after lastResponse (step { ready .rtcTime [] with
      periph := { Periph.initial with rtc := ⟨[(0, 0x56), (1, 0x34), (2, 0x12)], 0, .idle⟩ } }) =
    some (some 0x00123456) := by decide
/-- V27, V32. -/
theorem test_fmtTime : after State.trace (step (State.reset.withFetchWord 32 0x60000059)) = some [.rsp 0 0x0000003B]
    ∧ after State.trace (step (State.reset.withFetchWord 32 0x600000FF)) = some [.rsp 0 0x000000A5] := by decide
/-- R178, R22, R133: the answer is FMT_TIME's own value, and what a running operation has in `RES` is there again after it. -/
theorem test_fmtTime_res : after (fun t => (lastResponse t, t.res)) (step { ready (.fmtTime 0x34) [] with res := 0x123 }) =
    some (some 0x00000022, 0x123) := by decide
/-- P3 step 3: SNS_CFG clears a stale flag; `SPMODE = 0x100`. -/
theorem test_snsCfg : after (fun t => (t.trace, t.done, crValue t 0)) (step { ready .snsCfg [] with done := true }) =
    some ([.modeLoad .sns, .rsp 0 0x00000000], false, 0x100) := by decide
/-- P3 step 5 (V44): the trace of SNS_RD, the warm-up after the first byte only. -/
theorem test_snsRd : after State.trace (step (ready .snsRd [.byte 0x1A, .byte 0x2B, .byte 0x66, .byte 0x54])) =
    some [.modeLoad .sns, .cs .sns false, .delay (.setup .sns), .exch 0x00 0x1A, .delay .snsWarmup, .cs .sns false,
      .exch 0x00 0x2B, .cs .sns false, .exch 0x00 0x66, .cs .sns false, .exch 0x00 0x54, .delay (.hold .sns), .cs .sns true,
      .delay (.settle .sns), .rsp 0 0x068AD995] := by decide
/-- R203: RS low (`RS_CMD` of REFCFG), the flag left set (R202). -/
theorem test_lcdCmd : after (fun t => (t.trace, t.done)) (step (ready (.lcdCmd 0x39) [])) =
    some ([.modeLoad .lcd, .rs false, .cs .lcd false, .delay (.setup .lcd), .exch 0x39 0x00, .delay (.hold .lcd), .cs .lcd true,
      .delay (.settle .lcd), .rsp 0 0x00000000], true) := by decide
/-- R204: RS high, the flag drained. -/
theorem test_lcdDat : after (fun t => (t.rs, t.done, t.periph.lcd.ddram)) (step (ready (.lcdDat 0x41) [])) =
    some (true, false, [(0, 0x41)]) := by decide
/-- P4 step 1: the power-up delay comes first, and the nine commands in order. -/
theorem test_lcdInit : after (fun t => (t.trace.head?, t.periph.lcd.cmdlog, lastResponse t)) (step (ready .lcdInit [])) =
    some (some (.delay .lcdPowerup), [0x39, 0x39, 0x1E, 0x55, 0x6C, 0x7F, 0x0C, 0x01, 0x06], some 0) := by decide +kernel
/-- P4 step 2, its beginning: the base of line 1, then the first character, read just before its transaction. -/
theorem test_lcdDraw : after State.trace
    (step { ready (.lcdDraw 0x40 0x50 0x60) [.reference, .never] with dmem := [(0x40, 0x31)] }) =
    some [.modeLoad .lcd, .rs false, .cs .lcd false, .delay (.setup .lcd), .exch 0x80 0x00, .delay (.hold .lcd), .cs .lcd true,
      .delay (.settle .lcd), .memRead 0x40 0x31, .modeLoad .lcd, .rs true, .cs .lcd false, .delay (.setup .lcd)] := by decide +kernel
/-- V66. -/
theorem test_lcdDraw_bad : after State.trace (step (ready (.lcdDraw 0x00 0x00 0xF1) [])) = some [.rsp 0 0x20000000] := by decide
/-- V70: the control registers after reset. -/
theorem test_crRd_reset : crValue State.reset 0 = 0x300 ∧ crValue State.reset 1 = 0 ∧ crValue State.reset 2 = 0
    ∧ crValue State.reset 3 = 0x006 ∧ crValue State.reset 4 = 0 := by decide
/-- V70, V68. -/
theorem test_crRd : after lastResponse (step (State.reset.withFetchWord 32 0xD0000003)) = some (some 0x00000006)
    ∧ after lastResponse (step (State.reset.withFetchWord 32 0xD0000005)) = some (some 0x20000000) := by decide
/-- V51: an illegal word is answered 0x1000_0000. -/
theorem test_illegal_answered : after State.trace (step (State.reset.withFetchWord 32 0xFFFFFFFF)) =
    some [.rsp 0 0x10000000] := by decide
/-- P8 (V76): port 1's RTC_RD hangs in its second exchange; port 0 reads CR4. -/
theorem test_crRd_during_hang : after lastResponse (step { running (.rtcRd 0x02) 6 true [.never] with
      ports := [some (encode (.crRd 4)), some (encode (.rtcRd 0x02))], owner := some 1 }) =
    some (some 0x00000023) := by decide
/-- R270, P8: a reset in the hang; the events and the freed port. -/
theorem test_reset : after (fun t => (t.trace, t.ports, t.owner)) (step { running (.rtcRd 0x02) 6 true [.never] with
      inputs := [.reset] }) =
    some ([.reset, .cs .rtc false], [none, none], none) := by decide
/-- R148, U16: a host's Issue, on an idle port and on a busy one. -/
theorem test_issue : after State.trace (step { State.reset with inputs := [.issue 1 0x50000000] }) = some [.cmd 1 0x50000000]
    ∧ isNext (step { ready .rtcTime [] with inputs := [.issue 0 0x50000000] }) = false := by decide

/-! ### Witnesses: the hypotheses of each obligation that has some, met together, each clause at a boundary -/

theorem test_witness_EncodeOfDecodeIsTheWord : decode 0x40017FFF = .command (.rtcBrd 0x01 0x7F 255) := by decide
theorem test_witness_IllegalWordsAreExactlyTheReservedOnes : wordOp 0xE0000000 = 0xE ∧ wordRsv 0x11000000 ≠ 0
    ∧ wordC 0xA0010000 ≠ 0 ∧ wordA 0xD0000100 ≠ 0 ∧ wordB 0x20000201 ≠ 0 := by decide
theorem test_witness_AddressByteIsTaggedByTheBlock : (0x02 : Byte) &&& 0x7F = (0x82 : Byte) &&& 0x7F
    ∧ Config.refcfg.rtcWriteTag = true := by decide
theorem test_witness_BcdRoundTrips : (0 < 60 ∧ bcdToDecimal 0x00 = 0) ∧ (59 < 60 ∧ (0x59 : Byte).toNat ≤ 0x59
    ∧ ((0x59 : Byte) &&& 0x0F).toNat ≤ 9 ∧ bcdToDecimal 0x59 = 59) := by decide
theorem test_witness_ControlRegistersShowTheState : State.reset.owner = none
    ∧ (running (.rtcRd 0x02) 6 true []).owner = some 0 := by decide

theorem test_witness_RtcWrCompletes : (ready (.rtcWr 0x82 0x12) [.byte 1, .byte 2]).readyFor (.rtcWr 0x82 0x12) = true := by decide
theorem test_witness_RtcRdCompletes : (ready (.rtcRd 0x02) [.byte 1, .byte 2]).readyFor (.rtcRd 0x02) = true := by decide
theorem test_witness_RtcBwrCompletes :
    (ready (.rtcBwr 0xFF 0x00 1) (answersOf 2 (fun _ => 7))).readyFor (.rtcBwr 0xFF 0x00 1) = true
    ∧ 1 ≤ (1 : Byte).toNat ∧ (0xFF : Byte).toNat + (1 : Byte).toNat ≤ 256
    ∧ (ready (.rtcBwr 0xFF 0x00 1) (answersOf 2 (fun _ => 7))).rx = answersOf ((1 : Byte).toNat + 1) (fun _ => 7) ++ [] := by
  decide
theorem test_witness_RtcBrdCompletes :
    (ready (.rtcBrd 0xFF 0x00 1) (answersOf 2 (fun _ => 7))).readyFor (.rtcBrd 0xFF 0x00 1) = true
    ∧ 1 ≤ (1 : Byte).toNat ∧ (0xFF : Byte).toNat + (1 : Byte).toNat ≤ 256
    ∧ (ready (.rtcBrd 0xFF 0x00 1) (answersOf 2 (fun _ => 7))).rx = answersOf ((1 : Byte).toNat + 1) (fun _ => 7) ++ []
    ∧ (ready (.rtcBrd 0xFF 0x00 1) (answersOf 2 (fun _ => 7))).dmem.wf dmemSize = true := by decide
theorem test_witness_RtcTimeCompletes :
    (ready .rtcTime [.byte 1, .byte 2, .byte 3, .byte 4, .byte 5, .byte 6]).readyFor .rtcTime = true := by decide
theorem test_witness_SnsCfgCompletes : (ready .snsCfg []).readyFor .snsCfg = true := by decide
theorem test_witness_SnsRdCompletes : (ready .snsRd [.byte 1, .byte 2, .byte 3, .byte 4]).readyFor .snsRd = true := by decide
theorem test_witness_LcdCmdCompletes : (ready (.lcdCmd 0x39) [.byte 1]).readyFor (.lcdCmd 0x39) = true := by decide
theorem test_witness_LcdDatCompletes : (ready (.lcdDat 0x41) [.byte 1]).readyFor (.lcdDat 0x41) = true := by decide
theorem test_witness_LcdInitCompletes : (ready .lcdInit (answersOf 9 (fun _ => 0))).readyFor .lcdInit = true
    ∧ (ready .lcdInit (answersOf 9 (fun _ => 0))).rx = answersOf 9 (fun _ => 0) ++ [] := by decide
theorem test_witness_LcdDrawCompletes :
    (ready (.lcdDraw 0xF0 0x00 0xF0) (answersOf 51 (fun _ => 0))).readyFor (.lcdDraw 0xF0 0x00 0xF0) = true
    ∧ (0xF0 : Byte).toNat ≤ 240 ∧ (0x00 : Byte).toNat ≤ 240
    ∧ (ready (.lcdDraw 0xF0 0x00 0xF0) (answersOf 51 (fun _ => 0))).rx = answersOf 51 (fun _ => 0) ++ [] := by decide +kernel
theorem test_witness_CrRdCompletes : (4 : Byte).toNat ≤ 4 := by decide
theorem test_witness_EveryBusOperationEndsIfAnswered :
    (Instr.rtcRd 0x02).usesBus = true ∧ (Instr.rtcRd 0x02).wellFormed = true
    ∧ (ready (.rtcRd 0x02) [.byte 1, .reference]).readyFor (.rtcRd 0x02) = true
    ∧ (ready (.rtcRd 0x02) [.byte 1, .reference]).rx = [.byte 1, .reference] ++ []
    ∧ ([.byte 1, .reference] : List Answer).length = exchangeCount (microSeq (ready (.rtcRd 0x02) []).cfg (.rtcRd 0x02))
    ∧ (∀ a, a ∈ ([.byte 1, .reference] : List Answer) → a ≠ .never) := by decide
/-- The same of a command with no exchange, of a block transfer at the end of DMEM, and of a display command. -/
theorem test_witness_EveryBusOperationEndsIfAnswered_others :
    (Instr.snsCfg.usesBus = true ∧ Instr.snsCfg.wellFormed = true ∧ (ready .snsCfg []).readyFor .snsCfg = true
      ∧ ([] : List Answer).length = exchangeCount (microSeq Config.refcfg .snsCfg))
    ∧ ((Instr.rtcBrd 0xFE 0x7F 2).usesBus = true ∧ (Instr.rtcBrd 0xFE 0x7F 2).wellFormed = true
      ∧ (ready (.rtcBrd 0xFE 0x7F 2) [.byte 0, .byte 1, .byte 2]).readyFor (.rtcBrd 0xFE 0x7F 2) = true
      ∧ ([.byte 0, .byte 1, .byte 2] : List Answer).length = exchangeCount (microSeq Config.refcfg (.rtcBrd 0xFE 0x7F 2))
      ∧ ∀ a, a ∈ ([.byte 0, .byte 1, .byte 2] : List Answer) → a ≠ .never)
    ∧ ((Instr.lcdCmd 0x80).usesBus = true ∧ (Instr.lcdCmd 0x80).wellFormed = true
      ∧ (ready (.lcdCmd 0x80) [.reference]).readyFor (.lcdCmd 0x80) = true
      ∧ ([.reference] : List Answer).length = exchangeCount (microSeq Config.refcfg (.lcdCmd 0x80))
      ∧ ∀ a, a ∈ ([.reference] : List Answer) → a ≠ .never) := by decide

theorem test_witness_BadOperandsAreAnsweredAtOnce : (0 : Byte).toNat = 0 ∧ 256 < (0xFF : Byte).toNat + (2 : Byte).toNat
    ∧ 240 < (241 : Byte).toNat ∧ 4 < (5 : Byte).toNat := by decide
theorem test_witness_IllegalWordsAreAnsweredAtOnce :
    State.actDue { State.reset with ports := [none, some 0xE0000000] } = false
    ∧ State.turn (State.tickPause { State.reset with ports := [none, some 0xE0000000] }) =
        some (1, { State.reset with ports := [none, some 0xE0000000], serving := 1 })
    ∧ State.portCmd { State.reset with ports := [none, some 0xE0000000], serving := 1 } 1 = some 0xE0000000
    ∧ reservedWord 0xE0000000 ∧ reservedWord 0x11000000 ∧ reservedWord 0x10010212 ∧ reservedWord 0x90000100
    ∧ reservedWord 0x20000201
    ∧ State.owner { State.reset with ports := [none, some 0xE0000000] } ≠ some 1 :=
  ⟨by decide, by decide, by decide, by decide, by decide, by decide, by decide, by decide, by decide⟩
theorem test_witness_NoStepOfTheMachineFaults : (running (.rtcRd 0x02) 6 true []).inv = true := by decide

theorem test_witness_CommandsLeaveOtherPortsAlone : ∃ t, exec (.rtcRd 0x02) (ready (.rtcRd 0x02) []) = .next t :=
  of_isNext _ (by decide)
theorem test_witness_OnlyBlockReadWritesDmem : (∃ t, exec (.rtcBwr 0xFF 0 1) (ready (.rtcBwr 0xFF 0 1) []) = .next t)
    ∧ ∃ t, exec (.rtcBrd 0xFF 0 1) (ready (.rtcBrd 0xFF 0 1) []) = .next t :=
  ⟨of_isNext _ (by decide), of_isNext _ (by decide)⟩
theorem test_witness_RtcCommandsFrame : (∃ t, exec (.rtcWr 0x82 0x12) (ready (.rtcWr 0x82 0x12) []) = .next t)
    ∧ (∃ t, exec (.rtcRd 0x02) (ready (.rtcRd 0x02) []) = .next t)
    ∧ (∃ t, exec (.rtcBwr 0x20 0x80 1) (ready (.rtcBwr 0x20 0x80 1) []) = .next t)
    ∧ (∃ t, exec (.rtcBrd 0x20 0x80 1) (ready (.rtcBrd 0x20 0x80 1) []) = .next t)
    ∧ ∃ t, exec .rtcTime (ready .rtcTime []) = .next t :=
  ⟨of_isNext _ (by decide), of_isNext _ (by decide), of_isNext _ (by decide), of_isNext _ (by decide), of_isNext _ (by decide)⟩
theorem test_witness_SensorCommandsFrame : (∃ t, exec .snsCfg (ready .snsCfg []) = .next t)
    ∧ ∃ t, exec .snsRd (ready .snsRd []) = .next t :=
  ⟨of_isNext _ (by decide), of_isNext _ (by decide)⟩
theorem test_witness_LcdCommandsFrame : (∃ t, exec (.lcdCmd 0x39) (ready (.lcdCmd 0x39) []) = .next t)
    ∧ (∃ t, exec (.lcdDat 0x41) (ready (.lcdDat 0x41) []) = .next t)
    ∧ (∃ t, exec .lcdInit (ready .lcdInit []) = .next t)
    ∧ ∃ t, exec (.lcdDraw 0x40 0x50 0x60) (ready (.lcdDraw 0x40 0x50 0x60) [.never]) = .next t :=
  ⟨of_isNext _ (by decide), of_isNext _ (by decide), of_isNext _ (by decide +kernel), of_isNext _ (by decide +kernel)⟩
theorem test_witness_TraceOnlyGrowsAndConfigurationStays : ∃ t, step (ready (.rtcRd 0x02) []) = .next t :=
  of_isNext _ (by decide)

theorem test_witness_ShiftMicroOperation : (running (.rtcRd 0x02) 3 false []).owner ≠ none
    ∧ (running (.rtcRd 0x02) 3 false []).busy = false ∧ (running (.rtcRd 0x02) 3 false []).spmode.dev = devCode .rtc
    ∧ (∀ e, (running (.rtcRd 0x02) 3 false []).selected e = true ↔ e = .rtc)
    ∧ (running (.rtcRd 0x02) 3 false []).t3 = 0 :=
  ⟨by decide, by decide, by decide, by intro e; cases e <;> decide, by decide⟩
theorem test_witness_WaitMicroOperation : (State.done { State.reset with done := true } = true)
    ∧ ((running (.rtcRd 0x02) 6 true [.byte 9]).done = false ∧ (running (.rtcRd 0x02) 6 true [.byte 9]).busy = true
      ∧ (running (.rtcRd 0x02) 6 true [.byte 9]).rx = .byte 9 :: []
      ∧ (running (.rtcRd 0x02) 6 true [.byte 9]).nextAnswer = some (9, []))
    ∧ (State.reset.done = false ∧ State.reset.busy = false)
    ∧ ((running (.rtcRd 0x02) 6 true [.never]).done = false ∧ (running (.rtcRd 0x02) 6 true [.never]).rx = .never :: []
      ∧ (running (.rtcRd 0x02) 6 true [.never]).nextAnswer = none) := by
  decide
theorem test_witness_TakeAndDrainMicroOperations : State.reset.done = false := by decide
theorem test_witness_DelayMicroOperation : (State.reset.dly = 0 ∧ marginTime State.reset.cfg (.setup .rtc) ≠ 0)
    ∧ State.dly { State.reset with dly := 1 } ≠ 0
    ∧ marginTime { Config.refcfg with tSnsWarmup := 0 } .snsWarmup = 0 := by decide
theorem test_witness_MemoryMicroOperations : 255 < 256 ∧ 0 < 256 ∧ State.reset.dmem.wf dmemSize = true := by decide
theorem test_witness_OperationsEndByRelease : (Instr.rtcBrd 0x01 0x7F 255).usesBus = true
    ∧ (Instr.rtcBrd 0x01 0x7F 255).wellFormed = true ∧ Instr.rtcBrd 0x01 0x7F 255 ≠ .snsCfg
    ∧ (running (.rtcRd 0x02) 12 false []).owner = some 0 := by decide

theorem test_witness_StepRunsTheDecodedCommand :
    (ready (.rtcRd 0x02) []).actDue = false
    ∧ (ready (.rtcRd 0x02) []).tickPause.turn = some (0, ready (.rtcRd 0x02) [])
    ∧ (ready (.rtcRd 0x02) []).portCmd 0 = some 0x20000200 ∧ decode 0x20000200 = .command (.rtcRd 0x02) := by decide
theorem test_witness_FetchedWordIsRun : decode 0x10008212 = .command (.rtcWr 0x82 0x12) := by decide
theorem test_witness_IssueOnAnIdlePort :
    (State.inputs { State.reset with inputs := [.issue 1 0x50000000] } = .issue 1 0x50000000 :: []
      ∧ (1 : Port).val < State.reset.ports.length ∧ State.reset.portCmd 1 = none)
    ∧ (State.inputs { ready .rtcTime [] with inputs := [.issue 0 0x50000000] } = .issue 0 0x50000000 :: []
      ∧ (0 : Port).val < (ready .rtcTime []).ports.length ∧ (ready .rtcTime []).portCmd 0 ≠ none) := by decide
theorem test_witness_HostWritesDmemAtAnyTime :
    State.inputs { State.reset with inputs := [.poke 0xFF 1] } = .poke 0xFF 1 :: [] ∧ State.reset.dmem.wf dmemSize = true := by
  decide
theorem test_witness_GrantRule :
    ((ready (.rtcRd 0x02) []).owner = none ∧ (ready (.rtcRd 0x02) []).turn = some (0, ready (.rtcRd 0x02) [])
      ∧ (ready (.rtcRd 0x02) []).busPending 0 = true ∧ (ready (.rtcRd 0x02) []).cfg.arbPolicy = .fixedLowestPort)
    ∧ (State.owner { ready (.rtcRd 0x02) [] with
          cfg := { Config.refcfg with arbPolicy := .anyPending }, ports := [some 0x50000000, some 0x80000000], choices := [.grant 1] } = none
      ∧ State.turn { ready (.rtcRd 0x02) [] with
          cfg := { Config.refcfg with arbPolicy := .anyPending }, ports := [some 0x50000000, some 0x80000000], choices := [.grant 1] }
        = some (1, { ready (.rtcRd 0x02) [] with
          cfg := { Config.refcfg with arbPolicy := .anyPending }, ports := [some 0x50000000, some 0x80000000], serving := 1 })
      ∧ State.busPending { ready (.rtcRd 0x02) [] with
          cfg := { Config.refcfg with arbPolicy := .anyPending }, ports := [some 0x50000000, some 0x80000000], choices := [.grant 1] } 1
        = true) := by decide
theorem test_witness_BusCommandsWaitForTheOwner : (running (.rtcRd 0x02) 6 true []).owner = some 0 ∧ (0 : Port) ≠ 1
    ∧ State.serving { running (.rtcRd 0x02) 6 true [] with serving := 1 } = 1 ∧ Instr.snsRd.usesBus = true
    ∧ Instr.snsRd.wellFormed = true := by decide
theorem test_witness_OwnershipEndsByResponseOrReset : (running (.rtcRd 0x02) 6 true []).inv = true
    ∧ (running (.rtcRd 0x02) 6 true []).owner = some 0 ∧ ∃ t, step (running (.rtcRd 0x02) 6 true []) = .next t :=
  ⟨by decide, by decide, of_isNext _ (by decide)⟩
theorem test_witness_ImmediateIsServedWhileTheBusIsOwned :
    State.immediatePending { running (.rtcRd 0x02) 6 true [] with ports := [some 0x20000200, some 0xD0000004] } 1 = true
    ∧ (∀ q, q < 1 → State.immediatePending
        { running (.rtcRd 0x02) 6 true [] with ports := [some 0x20000200, some 0xD0000004] } q = false)
    ∧ (running (.rtcRd 0x02) 6 true []).choices = [] := by decide

theorem test_witness_StepKeepsTheInvariant : (ready (.rtcRd 0x02) []).inv = true
    ∧ ∃ t, step (ready (.rtcRd 0x02) []) = .next t :=
  ⟨by decide, of_isNext _ (by decide)⟩
theorem test_witness_EveryMicroStepKeepsTheInvariant : (running (.rtcRd 0x02) 6 true []).inv = true
    ∧ (running (.rtcRd 0x02) 6 true []).owner = some 0 ∧ (running (.rtcRd 0x02) 6 true []).portCmd 0 = some 0x20000200
    ∧ decode 0x20000200 = .command (.rtcRd 0x02)
    ∧ ∃ t, (running (.rtcRd 0x02) 6 true []).seqTick (microSeq Config.refcfg (.rtcRd 0x02)) = .moved t :=
  ⟨by decide, by decide, by decide, by decide, _, rfl⟩
/-- A run from reset: port 0 is issued RTC_RD, and its first exchange is never completed; a device is selected. -/
theorem test_witness_ReachableStatesMeetR43 : (Reachable State.reset ∧ State.reset.owner = none)
    ∧ ∃ s, Reachable s ∧ s.owner = some 0 ∧ s.busy = true ∧ s.selected .rtc = true := by
  have h0 : Reachable { State.reset with inputs := [.issue 0 0x20000200], rx := [.never] } :=
    Reachable.reset Config.refcfg [] Periph.initial [.issue 0 0x20000200] [.never] [] rfl rfl rfl
  have h1 : Reachable { ready (.rtcRd 0x02) [.never] with trace := [.cmd 0 0x20000200] } := Reachable.step _ _ h0 rfl
  obtain ⟨t, ht, hv⟩ := of_after (fun t => (t.owner, t.busy, t.selected .rtc))
    (step { ready (.rtcRd 0x02) [.never] with trace := [.cmd 0 0x20000200] }) (some 0, true, true) (by decide)
  simp only [Prod.mk.injEq] at hv
  exact ⟨⟨Reachable.reset Config.refcfg [] Periph.initial [] [] [] rfl rfl rfl, rfl⟩, t, Reachable.step _ t h1 ht, hv⟩
theorem test_witness_ContractHoldsAtEveryShift : (running (.rtcRd 0x02) 3 false []).inv = true
    ∧ (running (.rtcRd 0x02) 3 false []).owner = some 0 ∧ (running (.rtcRd 0x02) 3 false []).portCmd 0 = some 0x20000200
    ∧ decode 0x20000200 = .command (.rtcRd 0x02)
    ∧ (microSeq Config.refcfg (.rtcRd 0x02))[(running (.rtcRd 0x02) 3 false []).upc.toNat]? = some (.shift (.imm 0x02)) := by
  decide
theorem test_witness_StaleStateNeverLeaks : Instr.snsRd.usesBus = true ∧ Instr.snsRd.wellFormed = true
    ∧ (ready .snsRd [.byte 1, .byte 2, .byte 3, .byte 4]).readyFor .snsRd = true
    ∧ ([.byte 1, .byte 2, .byte 3, .byte 4] : List Answer).length = exchangeCount (microSeq Config.refcfg .snsRd)
    ∧ (∀ a, a ∈ ([.byte 1, .byte 2, .byte 3, .byte 4] : List Answer) → a ≠ .never)
    ∧ State.done { ready .snsRd [.byte 1, .byte 2, .byte 3, .byte 4] with done := true, rxhold := 9 } ≠ (ready .snsRd []).done := by
  decide
theorem test_witness_DoneAfterEachCommand : ((Instr.lcdDat 0x41).usesBus = true ∧ (Instr.lcdDat 0x41).wellFormed = true
    ∧ (ready (.lcdDat 0x41) [.byte 1]).readyFor (.lcdDat 0x41) = true
    ∧ ([.byte 1] : List Answer).length = exchangeCount (microSeq Config.refcfg (.lcdDat 0x41))
    ∧ (∀ a, a ∈ ([.byte 1] : List Answer) → a ≠ .never)
    ∧ ∃ t, exec (.lcdDat 0x41) (ready (.lcdDat 0x41) [.byte 1]) = .next t)
    ∧ ((Instr.crRd 4).usesBus = false ∧ ∃ t, exec (.crRd 4) (ready (.crRd 4) []) = .next t)
    ∧ ((Instr.rtcBwr 0xFF 0 2).wellFormed = false ∧ ∃ t, exec (.rtcBwr 0xFF 0 2) (ready (.rtcBwr 0xFF 0 2) []) = .next t) :=
  ⟨⟨by decide, by decide, by decide, by decide, by decide, of_isNext _ (by decide)⟩, ⟨by decide, of_isNext _ (by decide)⟩,
    by decide, of_isNext _ (by decide)⟩

theorem test_witness_ResetInAnyState :
    State.inputs { running (.rtcRd 0x02) 6 true [] with inputs := [.reset] } = .reset :: []
    ∧ (running (.rtcRd 0x02) 6 true []).selected .rtc = true := by decide
theorem test_witness_QuiescentBlockIsIdle : State.reset.quiescent = true ∧ State.reset.inputs = [] := by decide
theorem test_witness_HangIsForEver : (running (.rtcRd 0x02) 6 true [.never]).hung = true
    ∧ (running (.rtcRd 0x02) 6 true [.never]).undisturbed = true
    ∧ (running (.rtcRd 0x02) 6 true [.never]).owner = some (running (.rtcRd 0x02) 6 true [.never]).serving
    ∧ (running (.rtcRd 0x02) 6 true [.never]).choices = [] := by decide
theorem test_witness_WriteThenReadLoopsBack :
    (ready (.rtcWr 0x82 0x12) [.reference, .reference, .reference, .reference]).readyFor (.rtcWr 0x82 0x12) = true
    ∧ (ready (.rtcWr 0x82 0x12) []).periph.rtc.reg.wf 128 = true ∧ (0x82 : Byte) &&& 0x7F = (0x02 : Byte) &&& 0x7F := by decide

end Sys2Proof.Tests
end

