-- ==== Sys2Proof/Proofs/Scope.lean ====
section
/-! SUPPORT. The statements of 00_scope.md: the block's step when no outside agent is due. -/

namespace Sys2Proof.Machine

/-- With no outside agent due, the step is the block's, at the state that has used up a `pause` (R13, log 5). -/
theorem step_of_not_actDue (s : State) (h : s.actDue = false) : step s = s.tickPause.serve := by
  rcases step_cases s with ⟨_, _, _, hi, _⟩ | ⟨_, _, _, hi, _⟩ | ⟨_, hi, _⟩ | ⟨_, _, hi, hp, _⟩ | ⟨_, hs⟩
  · simp [State.actDue, hi] at h
  · simp [State.actDue, hi] at h
  · simp [State.actDue, hi] at h
  · simp [State.actDue, hi, hp] at h
  · exact hs

/-- A served port whose word decodes to a command has that command performed (R24, R133). -/
theorem State.serve_of_command (s t : State) (p : Port) (w : Word) (i : Instr)
    (ht : s.turn = some (p, t)) (hw : t.portCmd p = some w) (hd : decode w = .command i) : s.serve = exec i t := by
  simp only [State.serve, ht, hw, hd]

/-- Settles O41: the step is the block's step (`step_of_not_actDue`), which performs the decoded command
(`State.serve_of_command`), and choosing the port changes `serving` and `choices` only (`State.turn_some`). -/
theorem stepRunsTheDecodedCommand : Obligations.StepRunsTheDecodedCommand := by
  intro s t p w i hact hturn hw hd
  have hstep : step s = exec i t := calc
    step s = s.tickPause.serve := step_of_not_actDue s hact
    _ = exec i t := State.serve_of_command _ t p w i hturn hw hd
  have hstate : t = { s.tickPause with serving := p, choices := s.tickPause.choices.tail } :=
    (State.turn_some _ t p hturn).1
  exact ⟨hstep, by simpa only [State.tickPause_choices] using hstate⟩

end Sys2Proof.Machine
end

/-! SUPPORT. The statements of 10_state.md. The control registers (R31 to R36) are concatenations, read as fields at their
bits by one lemma about concatenation. The invariant (R43) is read off once for a free bus and once for a running operation;
there what it says of the micro-operations still to be done is `State.OnContract`, which every micro-operation keeps. -/

namespace Sys2Proof.Machine

/-! ### The control registers (R31 to R36) -/

/-- A concatenation, extended, is the upper field at its bit beside the lower field. -/
theorem setWidth_append_eq_or {v w : Nat} (n : Nat) (x : BitVec v) (y : BitVec w) :
    (x ++ y).setWidth n = x.setWidth n <<< w ||| y.setWidth n := by
  ext i hi
  by_cases h : i < w
  · simp [BitVec.getLsbD_append, h]
  · have hy : y.getLsbD i = false := BitVec.getLsbD_of_ge y i (by omega)
    simp [BitVec.getLsbD_append, h, hy]

/-- A port number is below 8, so the owner field holds it whole (R36). -/
theorem ownerField_some (p : Port) : (ownerField (some p)).setWidth 28 = BitVec.ofNat 28 p.val := by
  have hp : p.val < 8 := p.isLt
  apply BitVec.eq_of_toNat_eq
  simp only [ownerField, BitVec.toNat_setWidth, BitVec.toNat_ofNat]
  omega

/-- CR0 as its fields at their bits (R32). -/
theorem crValue_zero (s : State) :
    crValue s 0 = (s.spmode.dev.setWidth 28 <<< 8 ||| s.spmode.clksel.setWidth 28 <<< 4
      ||| (BitVec.ofBool s.spmode.cpol).setWidth 28 <<< 1 ||| (BitVec.ofBool s.spmode.cpha).setWidth 28) := by
  change (s.spmode.dev ++ s.spmode.clksel ++ (0 : BitVec 2) ++ BitVec.ofBool s.spmode.cpol
    ++ BitVec.ofBool s.spmode.cpha).setWidth 28 = _
  simp only [setWidth_append_eq_or, BitVec.shiftLeft_or_distrib, ← BitVec.shiftLeft_add]
  simp

/-- CR1 as its flags at their bits (R33). -/
theorem crValue_one (s : State) :
    crValue s 1 = ((BitVec.ofBool s.busy).setWidth 28 <<< 1 ||| (BitVec.ofBool s.done).setWidth 28) :=
  setWidth_append_eq_or 28 (BitVec.ofBool s.busy) (BitVec.ofBool s.done)

/-- CR3 as its levels at their bits (R35). -/
theorem crValue_three (s : State) :
    crValue s 3 = ((BitVec.ofBool s.rs).setWidth 28 <<< 3 ||| (BitVec.ofBool s.cs.lcd).setWidth 28 <<< 2
      ||| (BitVec.ofBool s.cs.sns).setWidth 28 <<< 1 ||| (BitVec.ofBool s.cs.rtc).setWidth 28) := by
  change (BitVec.ofBool s.rs ++ BitVec.ofBool s.cs.lcd ++ BitVec.ofBool s.cs.sns ++ BitVec.ofBool s.cs.rtc).setWidth 28 = _
  simp only [setWidth_append_eq_or, BitVec.shiftLeft_or_distrib, ← BitVec.shiftLeft_add]

/-- CR4 reads 0 while nobody owns the bus (R36). -/
theorem crValue_four_free (s : State) (h : s.owner = none) : crValue s 4 = 0 := by
  simp [crValue, cr4, h, ownerField]

/-- CR4 of an owned bus: the opcode, the port and `OWNED` (R36). -/
theorem crValue_four_owned (s : State) (p : Port) (h : s.owner = some p) :
    crValue s 4 = (s.op.setWidth 28 <<< 4 ||| BitVec.ofNat 28 p.val <<< 1 ||| 1) := by
  have hcr : crValue s 4 = (s.op ++ ownerField (some p) ++ (1 : BitVec 1)).setWidth 28 := by
    simp [crValue, cr4, h]
  rw [hcr]
  simp only [setWidth_append_eq_or, BitVec.shiftLeft_or_distrib, ← BitVec.shiftLeft_add, ownerField_some]
  rfl

/-- Settles O9: each register is a concatenation of its fields, which `setWidth_append_eq_or` puts at their bits. -/
theorem controlRegistersShowTheState : Obligations.ControlRegistersShowTheState := fun s =>
  ⟨crValue_zero s, crValue_one s, rfl, crValue_three s, crValue_four_free s, crValue_four_owned s⟩

/-! ### The state after reset (R42) -/

/-- A block with no owner and no command on any port has no turn to take. -/
theorem State.turn_of_idle (s : State) (ho : s.owner = none) (hp : ∀ p, s.portCmd p = none) : s.turn = none := by
  rw [Option.eq_none_iff_forall_not_mem]
  rintro ⟨p, t⟩ ht
  rcases (s.turn_some t p ht).2 with himm | hown | ⟨_, hbus⟩
  · obtain ⟨w, hw, _⟩ := s.immediatePending_true p himm
    cases (hp p).symm.trans hw
  · cases ho.symm.trans hown
  · obtain ⟨w, hw, _⟩ := s.busPending_true p hbus
    cases (hp p).symm.trans hw

theorem State.serve_of_idle (s : State) (ho : s.owner = none) (hp : ∀ p, s.portCmd p = none) : s.serve = .next s := by
  simp only [State.serve, s.turn_of_idle ho hp]

theorem State.portCmd_resetOf (c : Config) (p : Port) : (State.resetOf c).portCmd p = none := by
  simp only [State.portCmd, State.resetOf, List.getElem?_replicate]
  split
  · rename_i h
    split at h <;> cases h
    rfl
  · rfl

theorem State.selected_resetOf (c : Config) (d : Dev) : (State.resetOf c).selected d = false := by
  cases d <;> simp [State.selected, State.resetOf, PerDev.get]

/-- A reset moves no line to its active level, so SNS-ref and LCD-ref see nothing (R92, R270). -/
theorem resetPeriph_sns (s : State) : (resetPeriph s).sns = s.periph.sns := by
  simp [resetPeriph, Periph.onLine, SnsRef.onLine, resetLevel, PerDev.get]

theorem resetPeriph_lcd (s : State) : (resetPeriph s).lcd = s.periph.lcd := rfl

theorem resetPeriph_rtc_reg (s : State) : (resetPeriph s).rtc.reg = s.periph.rtc.reg := by
  simp only [resetPeriph, List.foldl, Periph.onLine_reg]

/-- Settles O56: the values are R42's field by field, and with every port idle the block has no turn (`State.serve_of_idle`). -/
theorem stateAfterReset : Obligations.StateAfterReset := by
  refine ⟨fun c => ?_, fun s => ⟨rfl, resetPeriph_rtc_reg s, resetPeriph_sns s, resetPeriph_lcd s⟩⟩
  have hcs : ∀ d, (State.resetOf c).cs.get d = !c.csActive.get d := by intro d; cases d <;> rfl
  have hidle : step (State.resetOf c) = .next (State.resetOf c) :=
    (State.resetOf c).serve_of_idle rfl (State.portCmd_resetOf c)
  exact ⟨State.portCmd_resetOf c, rfl, rfl, rfl, rfl, rfl, rfl, rfl, hcs, State.selected_resetOf c, rfl, hidle⟩

/-! ### Which device is selected (R35, R37), and which mode is loaded (R32) -/

theorem mem_allDevs (d : Dev) : d ∈ allDevs := by cases d <;> decide

theorem State.allDeselected_iff (s : State) : s.allDeselected = true ↔ ∀ d, s.selected d = false := by
  simp [State.allDeselected, mem_allDevs]

theorem State.atMostOneSelected_iff (s : State) :
    s.atMostOneSelected = true ↔ ∀ d e, s.selected d = true → s.selected e = true → d = e := by
  simp only [State.atMostOneSelected, List.all_eq_true, mem_allDevs, forall_const, Bool.or_eq_true, decide_eq_true_eq,
    Bool.not_eq_true', Bool.and_eq_false_iff]
  exact forall₂_congr (fun d e => by grind)

/-- `sel` is the one device that is selected, or none is. -/
def State.Selects (s : State) (sel : Option Dev) : Prop := ∀ d, s.selected d = true ↔ sel = some d

theorem State.selectedDev_eq_some {s : State} {d : Dev} (hone : ∀ d e, s.selected d = true → s.selected e = true → d = e)
    (hd : s.selected d = true) : s.selectedDev = some d := by
  cases hf : s.selectedDev with
  | none => exact absurd hd (List.find?_eq_none.mp hf d (mem_allDevs d))
  | some e => rw [hone e d (List.find?_some hf) hd]

/-- What `Selects` says in the model's own terms. -/
theorem State.selects_iff (s : State) (sel : Option Dev) :
    s.Selects sel ↔ s.atMostOneSelected = true ∧ s.selectedDev = sel := by
  rw [State.atMostOneSelected_iff]
  constructor
  · intro h
    have hone : ∀ d e, s.selected d = true → s.selected e = true → d = e := fun d e hd he =>
      Option.some.inj (((h d).mp hd).symm.trans ((h e).mp he))
    refine ⟨hone, ?_⟩
    cases sel with
    | none => exact List.find?_eq_none.mpr (fun d _ hd => by cases (h d).mp hd)
    | some d => exact State.selectedDev_eq_some hone ((h d).mpr rfl)
  · rintro ⟨hone, rfl⟩ d
    exact ⟨State.selectedDev_eq_some hone, fun hf => List.find?_some hf⟩

theorem State.selects_none_iff (s : State) : s.Selects none ↔ s.allDeselected = true := by
  simp [State.Selects, State.allDeselected_iff]

/-- Selection depends on the levels and the configuration. -/
theorem State.Selects.congr {s t : State} {sel : Option Dev} (h : s.Selects sel) (hcs : t.cs = s.cs) (hcfg : t.cfg = s.cfg) :
    t.Selects sel := fun d => by rw [State.selected_congr s t d hcs hcfg]; exact h d

/-- `Select(d)` while no other device is selected (R138). -/
theorem State.Selects.select {s : State} {sel : Option Dev} (h : s.Selects sel) (d : Dev) (hs : sel = none ∨ sel = some d) :
    (s.driveLine (.cs d) (s.cfg.csActive.get d)).Selects (some d) := by
  intro e
  by_cases he : e = d
  · subst he; simp [State.selected]
  · have hold : s.selected e = false := by
      rw [← Bool.not_eq_true, h e]
      rcases hs with rfl | rfl <;> simp [Ne.symm he]
    have hnew : (s.driveLine (.cs d) (s.cfg.csActive.get d)).selected e = s.selected e := by
      simp [State.selected, PerDev.get_set_of_ne _ _ _ _ he]
    simp [hnew, hold, Ne.symm he]

/-- `Deselect(d)`: any other device keeps its selection (R138). -/
theorem State.Selects.deselect {s : State} {sel : Option Dev} (h : s.Selects sel) (d : Dev) (level : Bool)
    (hl : level ≠ s.cfg.csActive.get d) :
    (s.driveLine (.cs d) level).Selects (if sel = some d then none else sel) := by
  intro e
  by_cases he : e = d
  · subst he
    have hoff : (s.driveLine (.cs e) level).selected e = false := by simp [State.selected, hl]
    rw [hoff]
    split <;> simp_all
  · have hnew : (s.driveLine (.cs d) level).selected e = s.selected e := by
      simp [State.selected, PerDev.get_set_of_ne _ _ _ _ he]
    rw [hnew, h e]
    split
    · rename_i hd; simp [hd, Ne.symm he]
    · rfl

theorem State.modeDev_congr (s t : State) (h : t.spmode = s.spmode) : t.modeDev = s.modeDev := by
  simp only [State.modeDev, h]

theorem State.modeDev_of_loaded (s : State) (d : Dev) (h : s.spmode.dev = devCode d) : s.modeDev = some d := by
  cases d <;> simp [State.modeDev, allDevs, h, devCode]

/-! ### The contract from the present micro-operation on (R147) -/

/-- Outside an exchange the next micro-operation is no `Wait` (R144). -/
theorem keepsContract_not_atWait (c : Config) (sel mode : Option Dev) (ms : List Micro)
    (h : keepsContract c sel mode false ms = true) : atWait ms = false := by
  unfold atWait
  split
  · simp [keepsContract] at h
  · rfl

/-- A `Wait` is kept only while a device is selected (R147). -/
theorem keepsContract_atWait (c : Config) (sel mode : Option Dev) (shifting : Bool) (ms : List Micro)
    (h : keepsContract c sel mode shifting ms = true) (hw : atWait ms = true) : sel.isSome = true := by
  unfold atWait at hw
  split at hw
  · simp only [keepsContract, Bool.and_eq_true] at h
    exact h.1.2
  · cases hw

/-- What the invariant says of a state with the micro-operations `ms` still to be done (R37, R43 items 3 and 4, R147): at most
one device is selected, `ms` keeps the contract, an exchange is in flight or just complete exactly at its `Wait`, and a delay
runs only at a `Delay`. -/
structure State.OnContract (s : State) (ms : List Micro) : Prop where
  one      : s.atMostOneSelected = true
  keeps    : keepsContract s.cfg s.selectedDev s.modeDev (atWait ms) ms = true
  exchange : (if atWait ms then s.busy != s.done else !s.busy) = true
  delay    : (atDelay ms || decide (s.dly = 0)) = true

theorem State.OnContract.selects {s : State} {ms : List Micro} (h : s.OnContract ms) : s.Selects s.selectedDev :=
  (s.selects_iff _).mpr ⟨h.one, rfl⟩

theorem State.OnContract.notBusy {s : State} {ms : List Micro} (h : s.OnContract ms) (hw : atWait ms = false) :
    s.busy = false := by
  simpa [hw] using h.exchange

theorem State.OnContract.noDelay {s : State} {ms : List Micro} (h : s.OnContract ms) (hd : atDelay ms = false) :
    s.dly = 0 := by
  simpa [hd] using h.delay

/-- Between micro-operations, with no exchange and no delay running. -/
theorem State.OnContract.of_idle {s : State} {ms : List Micro} {sel : Option Dev} (hsel : s.Selects sel)
    (hk : keepsContract s.cfg sel s.modeDev false ms = true) (hb : s.busy = false) (hd : s.dly = 0) : s.OnContract ms := by
  obtain ⟨hone, rfl⟩ := (s.selects_iff sel).mp hsel
  have hw : atWait ms = false := keepsContract_not_atWait _ _ _ _ hk
  exact ⟨hone, by rw [hw]; exact hk, by simp [hw, hb], by simp [hd]⟩

/-- The same, after a step that leaves the selection and the mode alone. -/
theorem State.OnContract.of_quiet {s t : State} {ms ms' : List Micro} (h : s.OnContract ms)
    (hk : keepsContract s.cfg s.selectedDev s.modeDev false ms' = true) (hcfg : t.cfg = s.cfg) (hcs : t.cs = s.cs)
    (hsp : t.spmode = s.spmode) (hb : t.busy = false) (hd : t.dly = 0) : t.OnContract ms' :=
  .of_idle (h.selects.congr hcs hcfg) (by rw [hcfg, s.modeDev_congr t hsp]; exact hk) hb hd

/-- `Delay` (R139): while time remains the same micro-operation is next, and then it completes. -/
theorem State.OnContract.delayTick {s : State} {m : Margin} {ms : List Micro} (h : s.OnContract (.delay m :: ms)) :
    (s.delayTick m).OnContract (remaining (.delay m :: ms) s (s.delayTick m)) := by
  have hb : s.busy = false := h.notBusy rfl
  have hk : keepsContract s.cfg s.selectedDev s.modeDev false ms = true := by simpa [keepsContract, atWait] using h.keeps
  unfold State.delayTick
  split
  · rw [remaining_held (.delay m :: ms) s _ (by rfl)]
    exact ⟨h.one, h.keeps, h.exchange, rfl⟩
  · rw [remaining_completed _ _ _ _ (by simp)]
    exact h.of_quiet hk (by simp) (by simp) (by simp) (by simpa using hb) (by simp)

/-- `Wait` (R141, R145): the exchange completes, and then the `Wait` passes. -/
theorem State.OnContract.waitTick {s t : State} {ms : List Micro} (h : s.OnContract (.wait :: ms)) (ht : s.waitTick = .moved t) :
    t.OnContract (remaining (.wait :: ms) s t) := by
  have hk : s.selectedDev.isSome = true ∧ keepsContract s.cfg s.selectedDev s.modeDev false ms = true := by
    simpa [keepsContract, atWait] using h.keeps
  have hx : s.busy ≠ s.done := by simpa [atWait] using h.exchange
  have hd : s.dly = 0 := h.noDelay rfl
  unfold State.waitTick at ht
  split at ht
  · rename_i hdone
    cases ht
    rw [remaining_completed _ _ _ _ (by simp)]
    exact h.of_quiet hk.2 rfl rfl rfl (by simpa [hdone] using hx) hd
  · split at ht
    · split at ht
      · cases ht
        rw [remaining_held _ _ _ (by simp)]
        exact ⟨h.one, h.keeps, rfl, h.delay⟩
      · cases ht
    · cases ht

/-- `Shift` (R140, R144): its `Wait` is next. -/
theorem State.OnContract.shift {s : State} {out : Source} {ms : List Micro} (h : s.OnContract (.shift out :: ms)) :
    (s.startShift (s.source out)).advance.OnContract ms := by
  obtain ⟨⟨_, hw⟩, hk⟩ : (_ ∧ atWait ms = true) ∧ keepsContract s.cfg s.selectedDev s.modeDev true ms = true := by
    simpa only [keepsContract, Bool.and_eq_true] using h.keeps
  exact ⟨h.one, by rw [hw]; exact hk, by rw [hw]; rfl, by simp [h.noDelay rfl]⟩

/-- `Cfg` (R136): another mode, loaded while nothing is selected. -/
theorem State.OnContract.cfg {s : State} {d : Dev} {ms : List Micro} (h : s.OnContract (.cfg d :: ms)) :
    (s.loadMode d).advance.OnContract ms := by
  obtain ⟨_, hk⟩ : _ ∧ keepsContract s.cfg s.selectedDev (some d) false ms = true := by
    simpa only [keepsContract, Bool.and_eq_true] using h.keeps
  refine .of_idle (h.selects.congr rfl rfl) ?_ (h.notBusy rfl) (h.noDelay rfl)
  rw [State.modeDev_of_loaded _ d rfl]
  exact hk

/-- `Line` (R137): a select, a deselect, or the register-select line. -/
theorem State.OnContract.line {s : State} {l : Line} {level : Bool} {ms : List Micro} (h : s.OnContract (.line l level :: ms)) :
    (s.driveLine l level).advance.OnContract ms := by
  have hk := h.keeps
  have hb : (s.driveLine l level).advance.busy = false := by simpa using h.notBusy rfl
  have hd : (s.driveLine l level).advance.dly = 0 := by simpa using h.noDelay rfl
  have hm : (s.driveLine l level).advance.modeDev = s.modeDev := State.modeDev_congr _ _ (by simp)
  cases l with
  | rs =>
    simp only [keepsContract, Bool.and_eq_true] at hk
    exact .of_idle (h.selects.congr rfl rfl) (by rw [hm]; exact hk.2) hb hd
  | cs d =>
    simp only [keepsContract, Bool.and_eq_true] at hk
    obtain ⟨_, hk⟩ := hk
    split at hk
    · rename_i hact
      subst hact
      simp only [Bool.and_eq_true, decide_eq_true_eq] at hk
      exact .of_idle (h.selects.select d hk.1) (by rw [hm]; exact hk.2) hb hd
    · rename_i hact
      exact .of_idle (h.selects.deselect d level hact) (by rw [hm]; exact hk) hb hd

/-- The micro-operations that touch neither the lines, nor the mode, nor an exchange, nor a delay. -/
def Micro.quiet : Micro → Bool
  | .takeRx _ | .drain | .memRead _ _ | .memWrite _ _ | .setRes _ => true
  | _ => false

theorem State.microTick_quiet {s t : State} {m : Micro} (hq : m.quiet = true) (ht : s.microTick m = .moved t) :
    t.upc = s.upc + 1 ∧ t.cfg = s.cfg ∧ t.cs = s.cs ∧ t.spmode = s.spmode ∧ t.busy = s.busy ∧ t.dly = s.dly := by
  cases m <;> simp only [Micro.quiet, Bool.false_eq_true] at hq <;> simp only [State.microTick] at ht
  case takeRx i => cases ht; simp
  case drain => cases ht; simp
  case setRes f => cases ht; simp
  case memRead a i => split at ht <;> cases ht; simp
  case memWrite a i => split at ht <;> cases ht; simp

theorem keepsContract_quiet {c : Config} {sel mode : Option Dev} {shifting : Bool} {m : Micro} {ms : List Micro}
    (hq : m.quiet = true) (h : keepsContract c sel mode shifting (m :: ms) = true) :
    keepsContract c sel mode false ms = true := by
  cases m <;> simp only [Micro.quiet, Bool.false_eq_true] at hq <;> simp only [keepsContract, Bool.and_eq_true] at h
  all_goals exact h.2

theorem State.OnContract.quiet {s t : State} {m : Micro} {ms : List Micro} (h : s.OnContract (m :: ms)) (hq : m.quiet = true)
    (ht : s.microTick m = .moved t) : t.OnContract (remaining (m :: ms) s t) := by
  obtain ⟨hu, hcfg, hcs, hsp, hb, hd⟩ := State.microTick_quiet hq ht
  have hk : keepsContract s.cfg s.selectedDev s.modeDev false ms = true := keepsContract_quiet hq h.keeps
  have hw : atWait (m :: ms) = false := by
    cases m with
    | wait => cases hq
    | _ => rfl
  have hnd : atDelay (m :: ms) = false := by
    cases m with
    | delay => cases hq
    | _ => rfl
  rw [remaining_completed m ms s t hu]
  exact h.of_quiet hk hcfg hcs hsp (hb.trans (h.notBusy hw)) (hd.trans (h.noDelay hnd))

/-- Every micro-operation that moves keeps the contract for those still to be done. -/
theorem State.OnContract.microTick {s t : State} {m : Micro} {ms : List Micro} (h : s.OnContract (m :: ms))
    (ht : s.microTick m = .moved t) : t.OnContract (remaining (m :: ms) s t) := by
  cases m with
  | cfg d => cases ht; rw [remaining_completed _ _ _ _ (by simp)]; exact h.cfg
  | line l level => cases ht; rw [remaining_completed _ _ _ _ (by simp)]; exact h.line
  | delay m => cases ht; exact h.delayTick
  | shift out =>
    simp only [State.microTick] at ht
    split at ht
    · cases ht; rw [remaining_completed _ _ _ _ (by simp)]; exact h.shift
    · cases ht
  | wait => exact h.waitTick ht
  | respond r => simp only [State.microTick] at ht; split at ht <;> cases ht
  | takeRx i => exact h.quiet rfl ht
  | drain => exact h.quiet rfl ht
  | memRead a i => exact h.quiet rfl ht
  | memWrite a i => exact h.quiet rfl ht
  | setRes f => exact h.quiet rfl ht

/-- At the `Respond` the bus is as R43 item 1 asks of a free one: nothing in flight, everything deselected, no delay. -/
theorem State.OnContract.respond {s : State} {r : Bool} {ms : List Micro} (h : s.OnContract (.respond r :: ms)) :
    s.allDeselected = true ∧ s.busy = false ∧ s.dly = 0 := by
  obtain ⟨⟨_, hsel⟩, _⟩ : (_ ∧ s.selectedDev.isNone = true) ∧ _ := by
    simpa only [keepsContract, Bool.and_eq_true] using h.keeps
  refine ⟨s.selects_none_iff.mp ?_, h.notBusy rfl, h.noDelay rfl⟩
  rw [← Option.isNone_iff_eq_none.mp hsel]
  exact h.selects

/-! ### The memories stay canonical (R61, R91, R93) -/

theorem State.memoriesOk_iff (s : State) : s.memoriesOk = true ↔
    s.dmem.wf dmemSize = true ∧ s.periph.rtc.reg.wf 128 = true ∧ s.periph.lcd.ddram.wf 128 = true := by
  simp [State.memoriesOk, and_assoc]

theorem State.memoriesOk_congr {s t : State} (hm : t.dmem = s.dmem) (he : t.periph = s.periph) : t.memoriesOk = s.memoriesOk := by
  simp only [State.memoriesOk, hm, he]

/-- A drive of a line writes no memory. -/
theorem State.memoriesOk_driveLine (l : Line) (v : Bool) (s : State) : (s.driveLine l v).memoriesOk = s.memoriesOk := by
  cases l with
  | rs => rfl
  | cs d => simp only [State.memoriesOk, State.driveLine_dmem, State.driveLine_cs_periph, Periph.onLine_reg, Periph.onLine_ddram]

/-- The selected reference peripheral writes at most one of its own bytes (R91, R93). -/
theorem State.memoriesOk_complete (b : Byte) (s : State) (h : s.memoriesOk = true) : (s.complete b).memoriesOk = true := by
  rw [State.memoriesOk_iff] at h ⊢
  obtain ⟨hd, hr, hl⟩ := h
  exact ⟨hd, Periph.exchange_reg_wf _ _ _ _ _ hr, Periph.exchange_ddram_wf _ _ _ _ _ hl⟩

theorem State.memoriesOk_waitTick {s t : State} (h : s.memoriesOk = true) (ht : s.waitTick = .moved t) : t.memoriesOk = true := by
  unfold State.waitTick at ht
  split at ht
  · cases ht; exact h
  · split at ht
    · split at ht
      · cases ht; exact State.memoriesOk_complete _ _ h
      · cases ht
    · cases ht

theorem State.memoriesOk_microTick {s t : State} {m : Micro} (h : s.memoriesOk = true) (ht : s.microTick m = .moved t) :
    t.memoriesOk = true := by
  cases m with
  | cfg d => cases ht; exact h
  | line l level => cases ht; exact (State.memoriesOk_driveLine l level s).trans h
  | delay m => cases ht; exact (State.memoriesOk_congr (by simp) (by simp)).trans h
  | shift out =>
    simp only [State.microTick] at ht
    split at ht <;> cases ht
    exact h
  | wait => exact State.memoriesOk_waitTick h ht
  | takeRx i => cases ht; exact (State.memoriesOk_congr (by simp) (by simp)).trans h
  | drain => cases ht; exact h
  | memRead a i =>
    simp only [State.microTick] at ht
    split at ht <;> cases ht
    exact (State.memoriesOk_congr (by simp) (by simp)).trans h
  | memWrite a i =>
    simp only [State.microTick] at ht
    split at ht <;> cases ht
    obtain ⟨hd, hr, hl⟩ := s.memoriesOk_iff.mp h
    exact (State.memoriesOk_iff _).mpr ⟨Memory.wf_write _ _ a (s.temp i) ‹_› hd, hr, hl⟩
  | setRes f => cases ht; exact h
  | respond r =>
    simp only [State.microTick] at ht
    split at ht <;> cases ht

/-! ### The invariant, read off once -/

theorem State.busFree_iff (s : State) : s.busFree = true ↔
    s.owner = none ∧ s.busy = false ∧ s.allDeselected = true ∧ s.op = 0 ∧ s.upc = 0 ∧ s.dly = 0 := by
  simp [State.busFree, and_assoc]

/-- The command `i`, the word `w` of port `p`, is the running operation, at its place in its micro-sequence (R43 item 2). -/
structure State.RunsFor (s : State) (p : Port) (w : Word) (i : Instr) : Prop where
  port     : s.portCmd p = some w
  decodes  : decode w = .command i
  usesBus  : i.usesBus = true
  operands : i.operandsOk = true
  opcode   : s.op = wordOp w
  contract : s.OnContract ((microSeq s.cfg i).drop s.upc.toNat)

theorem State.running_iff (s : State) (p : Port) (hone : s.atMostOneSelected = true) :
    s.running p = true ↔ ∃ w i, s.RunsFor p w i := by
  constructor
  · intro h
    unfold State.running at h
    split at h
    · cases h
    · rename_i w hw
      split at h
      · cases h
      · rename_i i hd
        simp only [Bool.and_eq_true, decide_eq_true_eq] at h
        obtain ⟨⟨⟨⟨⟨⟨hu, ho⟩, hop⟩, _⟩, hk⟩, hx⟩, hdly⟩ := h
        exact ⟨w, i, hw, hd, hu, ho, hop, hone, hk, hx, by simpa using hdly⟩
  · rintro ⟨w, i, hw, hd, hu, ho, hop, -, hk, hx, hdly⟩
    simp only [State.running, hw, hd, hu, ho, hk, hx, decide_eq_true hop, decide_eq_true (microSeq_length s.cfg i), hdly,
      Bool.and_self]

/-- The invariant while the bus is free. -/
theorem State.inv_iff_of_free (s : State) (ho : s.owner = none) :
    s.inv = true ↔ s.ports.length = s.cfg.nPorts ∧ s.memoriesOk = true ∧ s.busFree = true := by
  simp only [State.inv, ho, Bool.and_eq_true, decide_eq_true_eq]
  constructor
  · rintro ⟨⟨⟨hl, hm⟩, _⟩, hf⟩
    exact ⟨hl, hm, hf⟩
  · rintro ⟨hl, hm, hf⟩
    obtain ⟨_, _, hsel, _⟩ := s.busFree_iff.mp hf
    exact ⟨⟨⟨hl, hm⟩, ((s.selects_iff none).mp (s.selects_none_iff.mpr hsel)).1⟩, hf⟩

/-- The invariant while port `p` owns the bus. -/
theorem State.inv_iff_of_owned (s : State) (p : Port) (ho : s.owner = some p) :
    s.inv = true ↔ s.ports.length = s.cfg.nPorts ∧ s.memoriesOk = true ∧ ∃ w i, s.RunsFor p w i := by
  simp only [State.inv, ho, Bool.and_eq_true, decide_eq_true_eq]
  constructor
  · rintro ⟨⟨⟨hl, hm⟩, hone⟩, hr⟩
    exact ⟨hl, hm, (s.running_iff p hone).mp hr⟩
  · rintro ⟨hl, hm, w, i, hr⟩
    exact ⟨⟨⟨hl, hm⟩, hr.contract.one⟩, (s.running_iff p hr.contract.one).mpr ⟨w, i, hr⟩⟩

theorem State.inv_ports_memories (s : State) (h : s.inv = true) : s.ports.length = s.cfg.nPorts ∧ s.memoriesOk = true := by
  simp only [State.inv, Bool.and_eq_true, decide_eq_true_eq] at h
  exact h.1.1

/-- The owner's decoded command is the running operation. -/
theorem State.runsFor_of_inv {s : State} {p : Port} {w : Word} {i : Instr} (h : s.inv = true) (ho : s.owner = some p)
    (hw : s.portCmd p = some w) (hd : decode w = .command i) : s.RunsFor p w i := by
  obtain ⟨_, _, w', i', hr⟩ := (s.inv_iff_of_owned p ho).mp h
  cases hr.port.symm.trans hw
  cases hr.decodes.symm.trans hd
  exact hr

/-! ### Steps of the sequencer -/

theorem State.RunsFor.seqTick {s t : State} {p : Port} {w : Word} {i : Instr} (h : s.RunsFor p w i)
    (ht : s.seqTick (microSeq s.cfg i) = .moved t) : t.RunsFor p w i := by
  obtain ⟨m, hm, _, hmt⟩ := s.seqTick_moved _ t ht
  obtain ⟨hcfg, hports, _, hop, _⟩ := s.microTick_frame t m hmt
  obtain ⟨hlt, hget⟩ := List.getElem?_eq_some_iff.mp hm
  have hdrop : (microSeq s.cfg i).drop s.upc.toNat = m :: (microSeq s.cfg i).drop (s.upc.toNat + 1) := by
    rw [List.drop_eq_getElem_cons hlt, hget]
  have hc : t.OnContract (remaining ((microSeq s.cfg i).drop s.upc.toNat) s t) := by
    rw [hdrop]
    exact State.OnContract.microTick (hdrop ▸ h.contract) hmt
  rw [remaining_drop _ s t (microSeq_length _ _) ht, ← hcfg] at hc
  exact ⟨(s.portCmd_congr t p hports).trans h.port, h.decodes, h.usesBus, h.operands, hop.trans h.opcode, hc⟩

/-- A step of the running operation that moves keeps the invariant. -/
theorem State.inv_of_seqTick_moved {s t : State} {p : Port} {w : Word} {i : Instr} (h : s.inv = true) (ho : s.owner = some p)
    (hr : s.RunsFor p w i) (ht : s.seqTick (microSeq s.cfg i) = .moved t) : t.inv = true := by
  obtain ⟨m, _, _, hmt⟩ := s.seqTick_moved _ t ht
  obtain ⟨hcfg, hports, hown, _⟩ := s.microTick_frame t m hmt
  obtain ⟨hl, hm⟩ := s.inv_ports_memories h
  exact (t.inv_iff_of_owned p (hown.trans ho)).mpr
    ⟨by rw [hports, hcfg]; exact hl, State.memoriesOk_microTick hm hmt, w, i, hr.seqTick ht⟩

/-- The response of the running operation frees the bus and keeps the invariant (R134). -/
theorem State.inv_of_seqTick_responded {s t : State} {p : Port} {w : Word} {i : Instr} (h : s.inv = true)
    (hr : s.RunsFor p w i) (ht : s.seqTick (microSeq s.cfg i) = .responded t) : t.inv = true := by
  obtain ⟨r, q, hm, _, rfl⟩ := s.seqTick_responded _ t ht
  obtain ⟨hlt, hget⟩ := List.getElem?_eq_some_iff.mp hm
  have hc := hr.contract
  rw [List.drop_eq_getElem_cons hlt, hget] at hc
  obtain ⟨hsel, hb, hd⟩ := hc.respond
  obtain ⟨hl, hmem⟩ := s.inv_ports_memories h
  exact (State.inv_iff_of_free _ rfl).mpr
    ⟨by simpa using hl, hmem, (State.busFree_iff _).mpr ⟨rfl, hb, hsel, rfl, rfl, hd⟩⟩

/-- Settles O51: the step is the running operation's, and it moves or it responds. -/
theorem everyMicroStepKeepsTheInvariant : Obligations.EveryMicroStepKeepsTheInvariant := by
  intro s t p w i h ho hw hd ht
  have hr : s.RunsFor p w i := State.runsFor_of_inv h ho hw hd
  rcases ht with ht | ht
  · exact State.inv_of_seqTick_moved h ho hr ht
  · exact State.inv_of_seqTick_responded h hr ht

/-! ### Steps of the machine -/

theorem State.inv_tickPause (s : State) : s.tickPause.inv = s.inv := by
  unfold State.tickPause
  split <;> rfl

theorem State.RunsFor.tickPause {s : State} {p : Port} {w : Word} {i : Instr} (h : s.RunsFor p w i) :
    s.tickPause.RunsFor p w i := by
  unfold State.tickPause
  split
  · obtain ⟨hw, hd, hu, hok, hop, hone, hk, hx, hdly⟩ := h
    exact ⟨hw, hd, hu, hok, hop, hone, hk, hx, hdly⟩
  · exact h

/-- A run of the running operation, however far it comes (R25). -/
theorem State.inv_of_runSeq {s t : State} {p : Port} {w : Word} {i : Instr} (h : s.inv = true) (ho : s.owner = some p)
    (hr : s.RunsFor p w i) (rival : Bool) (n : Nat) (must : Bool)
    (ht : runSeq rival n must ((microSeq s.cfg i).drop s.upc.toNat) s = .next t) : t.inv = true := by
  have hrun := runSeq_induction (microSeq s.cfg i) (microSeq_length _ _)
    (fun u => u.inv = true ∧ u.owner = some p ∧ u.cfg = s.cfg ∧ u.RunsFor p w i)
    (fun u ⟨hi, hu, hc, hru⟩ => ⟨u.inv_tickPause.trans hi, by simpa using hu, by simpa using hc, hru.tickPause⟩)
    (fun u v ⟨hi, hu, hc, hru⟩ hv => by
      obtain ⟨m, _, _, hmv⟩ := u.seqTick_moved _ v hv
      obtain ⟨hcfg, _, hown, _⟩ := u.microTick_frame v m hmv
      rw [← hc] at hv
      exact ⟨State.inv_of_seqTick_moved hi hu hru hv, hown.trans hu, hcfg.trans hc, hru.seqTick hv⟩)
    rival n must s t ⟨h, ho, rfl, hr⟩ ht
  rcases hrun with ⟨hi, _⟩ | ⟨u, ⟨hi, _, hc, hru⟩, hu⟩
  · exact hi
  · exact State.inv_of_seqTick_responded hi hru (hc ▸ hu)

/-- The grant of the free bus starts the operation where its whole micro-sequence keeps the contract (R132). -/
theorem State.RunsFor.grant {s : State} {p : Port} {w : Word} {i : Instr} (hf : s.busFree = true) (hw : s.portCmd p = some w)
    (hd : decode w = .command i) (hu : i.usesBus = true) (hok : i.operandsOk = true) : (s.grant p).RunsFor p w i := by
  obtain ⟨_, hb, hsel, _, _, hdly⟩ := s.busFree_iff.mp hf
  have hnone : (s.grant p).Selects none := (s.selects_none_iff.mpr hsel).congr rfl rfl
  exact ⟨hw, hd, hu, hok, by simp [hw], .of_idle hnone (microSeq_keepsContract _ _ i hu hok) hb hdly⟩

theorem State.inv_grant {s : State} {p : Port} {w : Word} {i : Instr} (h : s.inv = true) (ho : s.owner = none)
    (hr : (s.grant p).RunsFor p w i) : (s.grant p).inv = true := by
  obtain ⟨hl, hm, _⟩ := (s.inv_iff_of_free ho).mp h
  exact ((s.grant p).inv_iff_of_owned p rfl).mpr ⟨hl, hm, w, i, hr⟩

/-- The life of a bus operation, at any of its stages (R149). -/
theorem State.inv_of_runBus {s t : State} {w : Word} {i : Instr} (h : s.inv = true) (hw : s.portCmd s.serving = some w)
    (hd : decode w = .command i) (hu : i.usesBus = true) (hok : i.operandsOk = true)
    (ht : runBus (microSeq s.cfg i) s = .next t) : t.inv = true := by
  rcases runBus_cases (microSeq s.cfg i) s with ⟨ho, hrun⟩ | ⟨ho, hrun⟩ | ⟨p, _, _, hrun⟩
  · obtain ⟨_, _, hf⟩ := (s.inv_iff_of_free ho).mp h
    have hr : (s.grant s.serving).RunsFor s.serving w i := .grant hf hw hd hu hok
    exact State.inv_of_runSeq (State.inv_grant h ho hr) rfl hr _ _ _ (hrun.symm.trans ht)
  · exact State.inv_of_runSeq h ho (State.runsFor_of_inv h ho hw hd) _ _ _ (hrun.symm.trans ht)
  · cases hrun.symm.trans ht
    exact h

theorem State.portCmd_setPort_of_ne (s : State) (p q : Port) (c : Option Word) (h : q ≠ p) :
    (s.setPort p c).portCmd q = s.portCmd q := by
  have hne : p.val ≠ q.val := fun he => h (Fin.ext he.symm)
  simp only [State.portCmd, State.setPort_ports, List.getElem?_set_ne hne]

/-- The invariant asks nothing of the trace, of DMEM no more than its form, and of the ports only that the owner holds its
command. -/
theorem State.inv_withPortsDmemTrace {s : State} (h : s.inv = true) (ports : List (Option Word)) (mem : Memory) (tr : List Event)
    (hl : ports.length = s.ports.length) (hm : mem.wf dmemSize = true)
    (hp : ∀ p, s.owner = some p → State.portCmd { s with ports := ports } p = s.portCmd p) :
    State.inv { s with ports := ports, dmem := mem, trace := tr } = true := by
  obtain ⟨hn, hmem⟩ := s.inv_ports_memories h
  obtain ⟨_, hr, hd⟩ := s.memoriesOk_iff.mp hmem
  have hmem' : State.memoriesOk { s with ports := ports, dmem := mem, trace := tr } = true :=
    (State.memoriesOk_iff _).mpr ⟨hm, hr, hd⟩
  obtain ho | ⟨p, ho⟩ := Option.eq_none_or_eq_some s.owner
  · obtain ⟨_, _, hf⟩ := (s.inv_iff_of_free ho).mp h
    refine (State.inv_iff_of_free _ ?_).mpr ⟨hl.trans hn, hmem', hf⟩
    exact ho
  · obtain ⟨_, _, w, i, hrun⟩ := (s.inv_iff_of_owned p ho).mp h
    obtain ⟨hw, hd, hu, hok, hop, hone, hk, hx, hdly⟩ := hrun
    refine (State.inv_iff_of_owned _ p ?_).mpr
      ⟨hl.trans hn, hmem', w, i, (hp p ho).trans hw, hd, hu, hok, hop, hone, hk, hx, hdly⟩
    exact ho

/-- What a port that does not own the bus holds is nothing to the invariant. -/
theorem State.inv_setPort_emit {s : State} (h : s.inv = true) (p : Port) (c : Option Word) (e : Event) (hp : s.owner ≠ some p) :
    ((s.setPort p c).emit e).inv = true := by
  refine State.inv_withPortsDmemTrace h (s.ports.set p.val c) s.dmem _ List.length_set
    (s.memoriesOk_iff.mp (s.inv_ports_memories h).2).1 (fun q hq => ?_)
  exact s.portCmd_setPort_of_ne p q c (fun he => hp (he ▸ hq))

theorem State.inv_respond {s : State} (h : s.inv = true) (p : Port) (st : Status) (d : Data) (hp : s.owner ≠ some p) :
    (s.respond p st d).inv = true := State.inv_setPort_emit h p none _ hp

/-- The meaning of any command of a port keeps the invariant: a bus command by its run, any other by its response, on a port
that is not the owner. -/
theorem State.inv_of_exec {s t : State} {w : Word} {i : Instr} (h : s.inv = true) (hw : s.portCmd s.serving = some w)
    (hd : decode w = .command i) (ht : exec i s = .next t) : t.inv = true := by
  cases hok : i.operandsOk with
  | false =>
    have hown : s.owner ≠ some s.serving := fun ho => by
      simpa [hok] using (State.runsFor_of_inv h ho hw hd).operands
    cases (exec_badOperand i s hok).symm.trans ht
    exact State.inv_respond h _ _ _ hown
  | true =>
    cases hu : i.usesBus with
    | false =>
      have hown : s.owner ≠ some s.serving := fun ho => by
        simpa [hu] using (State.runsFor_of_inv h ho hw hd).usesBus
      obtain ⟨d, hex⟩ := exec_nonBus i s hu hok
      cases hex.symm.trans ht
      exact State.inv_respond h _ _ _ hown
    | true =>
      rw [exec_bus i s hu hok] at ht
      exact State.inv_of_runBus h hw hd hu hok ht

/-- The block's step, whichever port it serves. -/
theorem State.inv_of_serve {s t : State} (h : s.inv = true) (ht : s.serve = .next t) : t.inv = true := by
  rcases s.serve_cases with ⟨_, hs⟩ | ⟨p, u, hturn, hs⟩
  · cases hs.symm.trans ht
    exact h
  · obtain ⟨rfl, _⟩ := s.turn_some u p hturn
    have hu : State.inv { s with serving := p, choices := s.choices.tail } = true := h
    rcases hs with ⟨_, hs⟩ | ⟨w, why, hw, hd, hs⟩ | ⟨w, i, hw, hd, hs⟩
    · cases hs.symm.trans ht
    · cases hs.symm.trans ht
      refine State.inv_respond hu _ _ _ (fun ho => ?_)
      obtain ⟨_, _, w', i, hr⟩ := (State.inv_iff_of_owned _ p ho).mp hu
      cases hr.port.symm.trans hw
      cases hr.decodes.symm.trans hd
    · exact State.inv_of_exec hu hw hd (hs.symm.trans ht)

/-- `Issue` is made on an idle port, which is not the owner (R148). -/
theorem State.inv_of_hostIssue {s t : State} (h : s.inv = true) (p : Port) (w : Word) (ht : s.hostIssue p w = .next t) :
    t.inv = true := by
  obtain ⟨_, hidle, rfl⟩ := State.hostIssue_next p w s t ht
  refine State.inv_setPort_emit h p _ _ (fun ho => ?_)
  obtain ⟨_, _, w', i, hr⟩ := (s.inv_iff_of_owned p ho).mp h
  cases hidle.symm.trans hr.port

/-- Every DMEM address of a byte exists (R61). -/
theorem State.inv_hostPoke {s : State} (h : s.inv = true) (a v : Byte) : (s.hostPoke a v).inv = true :=
  State.inv_withPortsDmemTrace h s.ports (s.dmem.write a.toNat v) s.trace rfl
    (Memory.wf_write _ _ _ v a.isLt (s.memoriesOk_iff.mp (s.inv_ports_memories h).2).1) (fun _ _ => rfl)

/-! ### Reset and what is reachable -/

theorem State.busFree_resetOf (c : Config) : (State.resetOf c).busFree = true :=
  (State.busFree_iff _).mpr ⟨rfl, rfl, (State.allDeselected_iff _).mpr (State.selected_resetOf c), rfl, rfl, rfl⟩

/-- The block as R42 says, with canonical memories, whatever the outside agents will do. -/
theorem State.inv_of_resetOf (c : Config) (mem : Memory) (e : Periph) (sv : Port) (ins : List Input) (ans : List Answer)
    (chs : List Choice) (tr : List Event)
    (hm : mem.wf dmemSize = true) (hr : e.rtc.reg.wf 128 = true) (hl : e.lcd.ddram.wf 128 = true) :
    State.inv { State.resetOf c with
      dmem := mem, periph := e, serving := sv, inputs := ins, rx := ans, choices := chs, trace := tr } = true :=
  (State.inv_iff_of_free _ rfl).mpr
    ⟨List.length_replicate, (State.memoriesOk_iff _).mpr ⟨hm, hr, hl⟩, State.busFree_resetOf c⟩

theorem State.inv_resetOf (c : Config) : (State.resetOf c).inv = true :=
  State.inv_of_resetOf c [] Periph.initial 0 [] [] [] [] rfl rfl rfl

/-- Settles O49: the bus is free after reset and the memories are empty (`State.inv_of_resetOf`). -/
theorem invariantAtReset : Obligations.InvariantAtReset := ⟨State.inv_resetOf Config.refcfg, State.inv_resetOf⟩

/-- A reset in any state leaves the memories, so the invariant holds after it (R270). -/
theorem State.inv_resetBlock {s : State} (h : s.inv = true) : s.resetBlock.inv = true := by
  obtain ⟨hd, hr, hl⟩ := s.memoriesOk_iff.mp (s.inv_ports_memories h).2
  exact State.inv_of_resetOf s.cfg s.dmem (resetPeriph s) s.serving s.inputs _ s.choices _ hd
    (by rw [resetPeriph_rtc_reg]; exact hr) (by rw [resetPeriph_lcd]; exact hl)

/-- Settles O50: an outside agent's act by its own lemma, the block's step by `State.inv_of_serve`. -/
theorem stepKeepsTheInvariant : Obligations.StepKeepsTheInvariant := by
  intro s t h ht
  have hin : ∀ r, State.inv { s with inputs := r } = true := fun _ => h
  rcases step_cases s with ⟨p, w, r, _, hs⟩ | ⟨a, v, r, _, hs⟩ | ⟨r, _, hs⟩ | ⟨p, r, _, _, hs⟩ | ⟨_, hs⟩
  · exact State.inv_of_hostIssue (hin r) p w (hs.symm.trans ht)
  · cases hs.symm.trans ht
    exact State.inv_hostPoke (hin r) a v
  · cases hs.symm.trans ht
    exact State.inv_resetBlock (hin r)
  · cases hs.symm.trans ht
    exact hin r
  · exact State.inv_of_serve (s.inv_tickPause.trans h) (hs.symm.trans ht)

theorem Reachable.inv {s : State} (h : Reachable s) : s.inv = true := by
  induction h with
  | reset c mem e ins ans chs hm hr hl => exact State.inv_of_resetOf c mem e 0 ins ans chs [] hm hr hl
  | step s t _ ht ih => exact stepKeepsTheInvariant s t ih ht

/-- R43 item 4 of a running operation: an exchange is in flight only at a `Wait`, where a device is selected. -/
theorem State.OnContract.of_busy {s : State} {ms : List Micro} (h : s.OnContract ms) (hb : s.busy = true) :
    s.done = false ∧ ∃ d, s.selected d = true := by
  cases hw : atWait ms with
  | false => cases hb.symm.trans (h.notBusy hw)
  | true =>
    have hx : s.busy ≠ s.done := by simpa [hw] using h.exchange
    obtain ⟨d, hd⟩ := Option.isSome_iff_exists.mp (keepsContract_atWait _ _ _ _ _ h.keeps hw)
    exact ⟨by simpa [hb] using hx, d, (h.selects d).mpr hd⟩

/-- Settles O52: the items of R43 are read off the invariant, which every reachable state meets (`Reachable.inv`). -/
theorem reachableStatesMeetR43 : Obligations.ReachableStatesMeetR43 := by
  intro s hreach
  have h : s.inv = true := hreach.inv
  cases ho : s.owner with
  | none =>
    obtain ⟨_, _, hf⟩ := (s.inv_iff_of_free ho).mp h
    obtain ⟨_, hb, hsel, hop, hupc, _⟩ := s.busFree_iff.mp hf
    have hoff : ∀ d, s.selected d = false := s.allDeselected_iff.mp hsel
    exact ⟨fun _ => ⟨hb, hoff, hop, hupc⟩, by simp, by simp [hoff], by simp [hb]⟩
  | some p =>
    obtain ⟨_, _, w, i, hr⟩ := (s.inv_iff_of_owned p ho).mp h
    refine ⟨by simp, ?_, s.atMostOneSelected_iff.mp hr.contract.one, hr.contract.of_busy⟩
    rintro q ⟨⟩
    exact ⟨w, hr.port, hr.opcode⟩

end Sys2Proof.Machine

/-! SUPPORT. The statements of 20_memory.md: what `MemRead` and `MemWrite` do (R62), and that every step only adds to the trace
and keeps the configuration (R80, R8), which `State.Continues` says of one state and a later one. -/

namespace Sys2Proof.Machine

/-! ### The memory micro-operations (R62) -/

@[simp] theorem State.temp_emit (e : Event) (s : State) (i : Temp) : (s.emit e).temp i = s.temp i := by cases i <;> rfl

@[simp] theorem State.temp_advance (s : State) (i : Temp) : s.advance.temp i = s.temp i := by cases i <;> rfl

@[simp] theorem State.temp_withDmem (mem : Memory) (s : State) (i : Temp) : State.temp { s with dmem := mem } i = s.temp i := by
  cases i <;> rfl

/-- `MemRead` of an address that exists (R62). -/
theorem State.microTick_memRead (s : State) (a : Nat) (i : Temp) (ha : a < dmemSize) :
    s.microTick (.memRead a i) =
      .moved ((s.setTemp i (s.dmem.read a)).emit (.memRead a (s.dmem.read a))).advance := if_pos ha

/-- `MemWrite` of an address that exists (R62). -/
theorem State.microTick_memWrite (s : State) (a : Nat) (i : Temp) (ha : a < dmemSize) :
    s.microTick (.memWrite a i) =
      .moved (State.emit (.memWrite a (s.temp i)) { s with dmem := s.dmem.write a (s.temp i) }).advance := if_pos ha

/-- Settles O38: each micro-operation is its update of the state, and the byte written is read back and every other byte
reads as before by the laws of byte memories. -/
theorem memoryMicroOperations : Obligations.MemoryMicroOperations := by
  intro s a i ha hwf
  constructor
  · have hother : ∀ j, j ≠ i → (s.setTemp i (s.dmem.read a)).temp j = s.temp j := fun j => s.setTemp_temp_of_ne i j _
    exact ⟨_, s.microTick_memRead a i ha, by simp, by simpa using hother, by simp, by simp, by simp⟩
  · have hsame : (s.dmem.write a (s.temp i)).read a = s.temp i := Memory.read_write_same dmemSize _ a _ hwf
    have hother : ∀ b, b ≠ a → (s.dmem.write a (s.temp i)).read b = s.dmem.read b :=
      fun b => Memory.read_write_of_ne _ a b _
    have hform : (s.dmem.write a (s.temp i)).wf dmemSize = true := Memory.wf_write _ _ a _ ha hwf
    exact ⟨_, s.microTick_memWrite a i ha, hsame, by simp, hother, hform, rfl, rfl⟩

/-! ### The trace only grows, the configuration stays (R80, R12, R8) -/

/-- `t` can come after `s`: its trace begins with that of `s`, under the same configuration. -/
structure State.Continues (s t : State) : Prop where
  trace : s.trace <+: t.trace
  cfg   : t.cfg = s.cfg

theorem State.Continues.refl (s : State) : s.Continues s := ⟨List.prefix_rfl, rfl⟩

theorem State.Continues.trans {s t u : State} (h : s.Continues t) (h' : t.Continues u) : s.Continues u :=
  ⟨h.trace.trans h'.trace, h'.cfg.trans h.cfg⟩

theorem State.continues_iff (s t : State) : s.Continues t ↔ (∃ evs, t.trace = s.trace ++ evs) ∧ t.cfg = s.cfg :=
  ⟨fun ⟨⟨evs, he⟩, hc⟩ => ⟨⟨evs, he.symm⟩, hc⟩, fun ⟨⟨evs, he⟩, hc⟩ => ⟨⟨evs, he.symm⟩, hc⟩⟩

theorem State.continues_tickPause (s : State) : s.Continues s.tickPause := ⟨by simp, by simp⟩

theorem State.continues_respond (p : Port) (st : Status) (d : Data) (s : State) : s.Continues (s.respond p st d) :=
  ⟨by simp, by simp⟩

theorem State.continues_raise (st : Status) (s : State) : s.Continues (s.raise st) := s.continues_respond _ st 0

theorem State.continues_release (p : Port) (d : Data) (s : State) : s.Continues (s.release p d) := ⟨by simp, by simp⟩

theorem State.continues_hostPoke (a v : Byte) (s : State) : s.Continues (s.hostPoke a v) := ⟨by simp, by simp⟩

/-- A reset adds its own event and those of the lines it moves (R270). -/
theorem State.continues_resetBlock (s : State) : s.Continues s.resetBlock := ⟨List.prefix_append _ _, rfl⟩

theorem State.continues_of_hostIssue {s t : State} (p : Port) (w : Word) (h : s.hostIssue p w = .next t) : s.Continues t := by
  obtain ⟨_, _, rfl⟩ := State.hostIssue_next p w s t h
  exact ⟨by simp, by simp⟩

theorem State.trace_prefix_delayTick (m : Margin) (s : State) : s.trace <+: (s.delayTick m).trace := by
  unfold State.delayTick
  split
  · exact List.prefix_rfl
  · exact List.prefix_append _ _

theorem State.trace_prefix_waitTick {s t : State} (h : s.waitTick = .moved t) : s.trace <+: t.trace := by
  unfold State.waitTick at h
  split at h
  · cases h; exact List.prefix_rfl
  · split at h
    · split at h
      · cases h; exact List.prefix_append _ _
      · cases h
    · cases h

theorem State.continues_of_microTick {s t : State} {m : Micro} (h : s.microTick m = .moved t) : s.Continues t := by
  obtain ⟨hcfg, _⟩ := s.microTick_frame t m h
  refine ⟨?_, hcfg⟩
  cases m with
  | cfg d => cases h; exact List.prefix_append _ _
  | line l level => cases h; simp
  | delay m => cases h; exact s.trace_prefix_delayTick m
  | shift out =>
    simp only [State.microTick] at h
    split at h <;> cases h
    exact List.prefix_rfl
  | wait => exact State.trace_prefix_waitTick h
  | takeRx i => cases h; simp
  | drain => cases h; exact List.prefix_rfl
  | memRead a i =>
    simp only [State.microTick] at h
    split at h <;> cases h
    simp
  | memWrite a i =>
    simp only [State.microTick] at h
    split at h <;> cases h
    exact List.prefix_append _ _
  | setRes f => cases h; exact List.prefix_rfl
  | respond r =>
    simp only [State.microTick] at h
    split at h <;> cases h

/-- A run from `upc` on, wherever it stops: each of its steps adds to the trace, the response too. -/
theorem State.continues_of_runSeq {s t : State} (seq : List Micro) (hl : seq.length < 65536) (rival : Bool) (n : Nat)
    (must : Bool) (h : runSeq rival n must (seq.drop s.upc.toNat) s = .next t) : s.Continues t := by
  have hrun := runSeq_induction seq hl s.Continues (fun u hu => hu.trans u.continues_tickPause)
    (fun u v hu hv => by
      obtain ⟨m, _, _, hm⟩ := u.seqTick_moved seq v hv
      exact hu.trans (State.continues_of_microTick hm))
    rival n must s t (State.Continues.refl s) h
  rcases hrun with ht | ⟨u, hu, ht⟩
  · exact ht
  · obtain ⟨r, p, _, _, rfl⟩ := u.seqTick_responded seq t ht
    exact hu.trans (u.continues_release p _)

/-- The life of a bus operation, at any of its stages (R149); the grant is no event (R132). -/
theorem State.continues_of_runBus {s t : State} (seq : List Micro) (hl : seq.length < 65536) (h : runBus seq s = .next t) :
    s.Continues t := by
  rcases runBus_cases seq s with ⟨_, hrun⟩ | ⟨_, hrun⟩ | ⟨p, _, _, hrun⟩
  · have hgrant : s.Continues (s.grant s.serving) := ⟨by simp, by simp⟩
    exact hgrant.trans (State.continues_of_runSeq seq hl _ _ _ (hrun.symm.trans h))
  · exact State.continues_of_runSeq seq hl _ _ _ (hrun.symm.trans h)
  · cases hrun.symm.trans h
    exact .refl s

theorem State.continues_of_exec {s t : State} {i : Instr} (h : exec i s = .next t) : s.Continues t := by
  cases hok : i.operandsOk with
  | false =>
    cases (exec_badOperand i s hok).symm.trans h
    exact s.continues_raise _
  | true =>
    cases hu : i.usesBus with
    | false =>
      obtain ⟨d, hex⟩ := exec_nonBus i s hu hok
      cases hex.symm.trans h
      exact s.continues_respond _ _ d
    | true =>
      rw [exec_bus i s hu hok] at h
      exact State.continues_of_runBus _ (microSeq_length s.cfg i) h

/-- The block's step, whichever port it serves. -/
theorem State.continues_of_serve {s t : State} (h : s.serve = .next t) : s.Continues t := by
  rcases s.serve_cases with ⟨_, hs⟩ | ⟨p, u, hturn, hs⟩
  · cases hs.symm.trans h
    exact .refl s
  · obtain ⟨rfl, _⟩ := s.turn_some u p hturn
    have hserving : s.Continues { s with serving := p, choices := s.choices.tail } := ⟨List.prefix_rfl, rfl⟩
    rcases hs with ⟨_, hs⟩ | ⟨_, _, _, _, hs⟩ | ⟨_, i, _, _, hs⟩
    · cases hs.symm.trans h
    · cases hs.symm.trans h
      exact hserving.trans (State.continues_raise _ _)
    · exact hserving.trans (State.continues_of_exec (hs.symm.trans h))

theorem State.continues_of_step {s t : State} (h : step s = .next t) : s.Continues t := by
  have hin : ∀ r, s.Continues { s with inputs := r } := fun _ => ⟨List.prefix_rfl, rfl⟩
  rcases step_cases s with ⟨p, w, r, _, hs⟩ | ⟨a, v, r, _, hs⟩ | ⟨r, _, hs⟩ | ⟨p, r, _, _, hs⟩ | ⟨_, hs⟩
  · exact (hin r).trans (State.continues_of_hostIssue p w (hs.symm.trans h))
  · cases hs.symm.trans h
    exact (hin r).trans (State.continues_hostPoke a v _)
  · cases hs.symm.trans h
    exact (hin r).trans (State.continues_resetBlock _)
  · cases hs.symm.trans h
    exact hin r
  · exact s.continues_tickPause.trans (State.continues_of_serve (hs.symm.trans h))

/-- Settles O32: every step leads to a state that continues the one before (`State.continues_of_step`). -/
theorem traceOnlyGrowsAndConfigurationStays : Obligations.TraceOnlyGrowsAndConfigurationStays :=
  fun s t h => (s.continues_iff t).mp (State.continues_of_step h)

end Sys2Proof.Machine

/-! SUPPORT. The statements of 30_encoding.md. A word is its five fields (R100), so a row of the table matches exactly the words
whose fields it allows (R102). `tableRow` holds the rows once, by fields; that `decode` reads it (`decode_eq_tableRow`) and
`encode` writes it (`encode_of_tableRow`, `exists_tableRow`) gives both round trips and the illegal words (R106, R111). The
names of the hour register differ in the tag bit only, which RTC_WR overrides (R112, R171). -/

namespace Sys2Proof.Machine

/-! ### A word and its fields (R100) -/

/-- The five fields are the whole word. -/
theorem word_append_fields (w : Word) : wordOp w ++ wordRsv w ++ wordC w ++ wordA w ++ wordB w = w := by
  simp only [wordOp, wordRsv, wordC, wordA, wordB]
  rw [BitVec.extractLsb'_append_extractLsb'_eq_extractLsb' (start₁ := 24) (len₁ := 4) rfl,
    BitVec.extractLsb'_append_extractLsb'_eq_extractLsb' (start₁ := 16) (len₁ := 8) rfl,
    BitVec.extractLsb'_append_extractLsb'_eq_extractLsb' (start₁ := 8) (len₁ := 8) rfl,
    BitVec.extractLsb'_append_extractLsb'_eq_extractLsb' (start₁ := 0) (len₁ := 8) rfl]
  exact BitVec.extractLsb'_eq_self

/-- A word with `RSV = 0` is the encoding of its other fields (R111). -/
theorem encodeFields_of_rsv_zero (w : Word) (h : wordRsv w = 0) :
    encodeFields (wordOp w) (wordC w) (wordA w) (wordB w) = w := by
  rw [encodeFields, ← h, word_append_fields]

theorem word_eq_iff (v w : Word) :
    v = w ↔ wordOp v = wordOp w ∧ wordRsv v = wordRsv w ∧ wordC v = wordC w ∧ wordA v = wordA w ∧ wordB v = wordB w := by
  refine ⟨fun h => by simp [h], fun ⟨hop, hrsv, hc, ha, hb⟩ => ?_⟩
  rw [← word_append_fields v, hop, hrsv, hc, ha, hb, word_append_fields]

@[simp] theorem wordOp_and (v w : Word) : wordOp (v &&& w) = wordOp v &&& wordOp w := BitVec.extractLsb'_and
@[simp] theorem wordRsv_and (v w : Word) : wordRsv (v &&& w) = wordRsv v &&& wordRsv w := BitVec.extractLsb'_and
@[simp] theorem wordC_and (v w : Word) : wordC (v &&& w) = wordC v &&& wordC w := BitVec.extractLsb'_and
@[simp] theorem wordA_and (v w : Word) : wordA (v &&& w) = wordA v &&& wordA w := BitVec.extractLsb'_and
@[simp] theorem wordB_and (v w : Word) : wordB (v &&& w) = wordB v &&& wordB w := BitVec.extractLsb'_and

/-- The pattern a row compares with, `OP << 28`, is the encoding of the opcode with no operand (R102). -/
theorem setWidth_shiftLeft_eq_encodeFields (k : BitVec 4) : k.setWidth 32 <<< 28 = encodeFields k 0 0 0 := by
  revert k
  decide

/-! ### The rows of the table (R101, R102) -/

/-- The operand bytes that a format does not use are 0 (R102, R106 (c)). -/
def OperandsFit : Format → Byte → Byte → Byte → Prop
  | .n, c, a, b => c = 0 ∧ a = 0 ∧ b = 0
  | .b, c, a, _ => c = 0 ∧ a = 0
  | .a, c, _, b => c = 0 ∧ b = 0
  | .ab, c, _, _ => c = 0
  | .cab, _, _, _ => True

/-- A format's mask lets through exactly the bytes the format does not use (R102). -/
theorem operandsFit_iff_mask (f : Format) (c a b : Byte) :
    OperandsFit f c a b ↔ c &&& wordC f.mask = 0 ∧ a &&& wordA f.mask = 0 ∧ b &&& wordB f.mask = 0 := by
  have hkeep : ∀ x : Byte, x &&& 255#8 = x := fun _ => BitVec.and_allOnes
  cases f <;> simp [OperandsFit, wordC, wordA, wordB, Format.mask, hkeep]

/-- A row matches the words with its opcode, `RSV = 0`, and 0 in the bytes its format does not use. -/
theorem and_mask_eq_iff (w : Word) (k : BitVec 4) (f : Format) :
    w &&& f.mask = k.setWidth 32 <<< 28 ↔
      wordOp w = k ∧ wordRsv w = 0 ∧ OperandsFit f (wordC w) (wordA w) (wordB w) := by
  have hkeep : ∀ x : BitVec 4, x &&& 15#4 = x := fun _ => BitVec.and_allOnes
  have hop : wordOp f.mask = 0xF := by cases f <;> rfl
  have hrsv : wordRsv f.mask = 0xF := by cases f <;> rfl
  rw [setWidth_shiftLeft_eq_encodeFields, word_eq_iff, operandsFit_iff_mask]
  simp [hop, hrsv, hkeep]

/-- The table: the format and the command of the row with opcode `op`, the operands taken from the bytes `c`, `a`, `b`. -/
def tableRow (op : BitVec 4) (c a b : Byte) : Option (Format × Instr) :=
  match op.toNat with
  | 1 => some (.ab, .rtcWr a b)
  | 2 => some (.a, .rtcRd a)
  | 3 => some (.cab, .rtcBwr c a b)
  | 4 => some (.cab, .rtcBrd c a b)
  | 5 => some (.n, .rtcTime)
  | 6 => some (.b, .fmtTime b)
  | 7 => some (.n, .snsCfg)
  | 8 => some (.n, .snsRd)
  | 9 => some (.b, .lcdCmd b)
  | 10 => some (.b, .lcdDat b)
  | 11 => some (.n, .lcdInit)
  | 12 => some (.cab, .lcdDraw c a b)
  | 13 => some (.b, .crRd b)
  | _ => none

/-- The sixteen opcodes, for a case split over the rows. -/
theorem opcode_cases : ∀ op : BitVec 4, op = 0 ∨ op = 1 ∨ op = 2 ∨ op = 3 ∨ op = 4 ∨ op = 5 ∨ op = 6 ∨ op = 7
    ∨ op = 8 ∨ op = 9 ∨ op = 10 ∨ op = 11 ∨ op = 12 ∨ op = 13 ∨ op = 14 ∨ op = 15 := by decide

/-- The decoder tries the row of the word's opcode, if the table has one. -/
theorem decode_eq_tableRow (w : Word) :
    decode w = (tableRow (wordOp w) (wordC w) (wordA w) (wordB w)).elim (.illegal (.reservedOpcode (wordOp w)))
      (fun r => matchRow w (wordOp w) r.1 r.2) := by
  rcases opcode_cases (wordOp w) with h | h | h | h | h | h | h | h | h | h | h | h | h | h | h | h <;>
    simp [decode, tableRow, h]

/-- A row's command is encoded by the row's opcode and operand bytes, where they fit its format. -/
theorem encode_of_tableRow {op : BitVec 4} {c a b : Byte} {f : Format} {i : Instr}
    (hrow : tableRow op c a b = some (f, i)) (hfit : OperandsFit f c a b) : encode i = encodeFields op c a b := by
  rcases opcode_cases op with rfl | rfl | rfl | rfl | rfl | rfl | rfl | rfl | rfl | rfl | rfl | rfl | rfl | rfl | rfl | rfl <;>
    cases hrow <;> simp_all [OperandsFit, encode]

/-- Every command stands in the table: its encoding is its row's opcode and operand bytes, which fit the row's format. -/
theorem exists_tableRow (i : Instr) :
    ∃ op c a b f, encode i = encodeFields op c a b ∧ tableRow op c a b = some (f, i) ∧ OperandsFit f c a b := by
  cases i with
  | rtcWr addr value => exact ⟨0x1, 0, addr, value, .ab, rfl, rfl, rfl⟩
  | rtcRd addr => exact ⟨0x2, 0, addr, 0, .a, rfl, rfl, rfl, rfl⟩
  | rtcBwr buf startAddr count => exact ⟨0x3, buf, startAddr, count, .cab, rfl, rfl, trivial⟩
  | rtcBrd buf startAddr count => exact ⟨0x4, buf, startAddr, count, .cab, rfl, rfl, trivial⟩
  | rtcTime => exact ⟨0x5, 0, 0, 0, .n, rfl, rfl, rfl, rfl, rfl⟩
  | fmtTime bcd => exact ⟨0x6, 0, 0, bcd, .b, rfl, rfl, rfl, rfl⟩
  | snsCfg => exact ⟨0x7, 0, 0, 0, .n, rfl, rfl, rfl, rfl, rfl⟩
  | snsRd => exact ⟨0x8, 0, 0, 0, .n, rfl, rfl, rfl, rfl, rfl⟩
  | lcdCmd byte => exact ⟨0x9, 0, 0, byte, .b, rfl, rfl, rfl, rfl⟩
  | lcdDat byte => exact ⟨0xA, 0, 0, byte, .b, rfl, rfl, rfl, rfl⟩
  | lcdInit => exact ⟨0xB, 0, 0, 0, .n, rfl, rfl, rfl, rfl, rfl⟩
  | lcdDraw buf1 buf2 buf3 => exact ⟨0xC, buf1, buf2, buf3, .cab, rfl, rfl, trivial⟩
  | crRd n => exact ⟨0xD, 0, 0, n, .b, rfl, rfl, rfl, rfl⟩

/-- A word decodes to a command exactly when the row of its opcode has that command, `RSV` is 0, and the operand bytes fit. -/
theorem decode_eq_command_iff (w : Word) (i : Instr) :
    decode w = .command i ↔ ∃ f, tableRow (wordOp w) (wordC w) (wordA w) (wordB w) = some (f, i) ∧ wordRsv w = 0
      ∧ OperandsFit f (wordC w) (wordA w) (wordB w) := by
  rw [decode_eq_tableRow]
  cases tableRow (wordOp w) (wordC w) (wordA w) (wordB w) with
  | none => simp
  | some r =>
    obtain ⟨g, j⟩ := r
    simp only [Option.elim_some, matchRow_command, and_mask_eq_iff, Option.some.injEq, Prod.mk.injEq, true_and]
    constructor
    · rintro ⟨⟨hrsv, hfit⟩, rfl⟩
      exact ⟨g, ⟨rfl, rfl⟩, hrsv, hfit⟩
    · rintro ⟨f, ⟨rfl, rfl⟩, hrsv, hfit⟩
      exact ⟨⟨hrsv, hfit⟩, rfl⟩

/-- Settles O1: the fields of a command's encoding are its row's, so the row is found again (`exists_tableRow`). -/
theorem decodeOfEncodeIsTheCommand : Obligations.DecodeOfEncodeIsTheCommand := by
  intro i
  obtain ⟨op, c, a, b, f, hw, hrow, hfit⟩ := exists_tableRow i
  rw [hw, decode_eq_command_iff]
  exact ⟨f, by simpa using hrow, by simp, by simpa using hfit⟩

/-- Settles O2: the row of a word that decodes encodes its command by the word's own fields (`encode_of_tableRow`), and with
`RSV = 0` these are the whole word (`encodeFields_of_rsv_zero`). -/
theorem encodeOfDecodeIsTheWord : Obligations.EncodeOfDecodeIsTheWord := by
  intro w i h
  obtain ⟨f, hrow, hrsv, hfit⟩ := (decode_eq_command_iff w i).mp h
  rw [encode_of_tableRow hrow hfit, encodeFields_of_rsv_zero w hrsv]

/-- Every word is either a command or illegal, not both (R107). -/
theorem exists_illegal_iff (w : Word) : (∃ why, decode w = .illegal why) ↔ ¬ ∃ i, decode w = .command i := by
  cases decode w <;> simp

/-- The words that are not reserved have a row for their opcode, `RSV = 0`, and operand bytes that fit the row. -/
theorem not_reservedWord_iff (w : Word) : ¬ reservedWord w ↔
    ∃ row, tableRow (wordOp w) (wordC w) (wordA w) (wordB w) = some row ∧ wordRsv w = 0
      ∧ OperandsFit row.1 (wordC w) (wordA w) (wordB w) := by
  rcases opcode_cases (wordOp w) with h | h | h | h | h | h | h | h | h | h | h | h | h | h | h | h <;>
    simp [reservedWord, tableRow, h, OperandsFit]

/-- Settles O3: a word is illegal when it is no command's, so when no row has it (`decode_eq_command_iff`), and those are the
reserved words (`not_reservedWord_iff`). -/
theorem illegalWordsAreExactlyTheReservedOnes : Obligations.IllegalWordsAreExactlyTheReservedOnes := by
  intro w
  have hlegal : (∃ i, decode w = .command i) ↔ ¬ reservedWord w := by
    simp only [decode_eq_command_iff, not_reservedWord_iff]
    exact ⟨fun ⟨i, f, hrow⟩ => ⟨(f, i), hrow⟩, fun ⟨(f, i), hrow⟩ => ⟨i, f, hrow⟩⟩
  rw [exists_illegal_iff, hlegal, Classical.not_not]

theorem decode_of_encode_eq {w : Word} {i : Instr} (h : encode i = w) : decode w = .command i :=
  h ▸ decodeOfEncodeIsTheCommand i

/-- Settles O4: each of the words is the encoding of the command it is to decode to. -/
theorem wordsOfTheTableDecode : Obligations.WordsOfTheTableDecode := by
  unfold Obligations.WordsOfTheTableDecode
  and_intros <;> exact decode_of_encode_eq rfl

/-! ### The names of the hour register (R112, R171) -/

/-- Tagging for a write forgets the tag the address byte had (R171). -/
theorem tagW_tagW (c : Config) (a : Byte) : tagW c (tagW c a) = tagW c a := by
  simp only [tagW, BitVec.extractLsb'_append_eq_right]

theorem tagW_tagR (c : Config) (a : Byte) : tagW c (tagR c a) = tagW c a := by
  simp only [tagW, tagR, BitVec.extractLsb'_append_eq_right]

/-- RTC_WR uses its address through the write tag only (R173). -/
theorem rtcWrSeq_congr (c : Config) {a b : Byte} (h : tagW c a = tagW c b) (v : Byte) : rtcWrSeq c a v = rtcWrSeq c b v := by
  simp only [rtcWrSeq, h]

/-- The value of a byte fits in 8 bits (R111). -/
theorem operandByte_toNat (b : Byte) : operandByte b.toNat = .ok b := by
  simp [operandByte, b.isLt]

theorem asm2_toNat (f : Byte → Byte → Instr) (a b : Byte) : asm2 f [a.toNat, b.toNat] = .ok (f a b) := by
  simp only [asm2, asm1, operandByte_toNat]

/-- A line that names no port goes to port 0 (R110). -/
theorem assembleLine_of_asmCommand {c : Config} {line : String} {cs : List Char} {ts : List Token} {i : Instr}
    (hlex : lexLine line = .word cs :: ts) (hport : portToken cs = none) (hcmd : asmCommand c (.word cs :: ts) = .ok i) :
    assembleLine c line = .ok (some (0, i)) := by
  simp only [assembleLine, hlex, hport, hcmd]

/-- `RTC_WR name, 0x12`, where the name stands for the byte `b`. -/
theorem asmCommand_rtcWr {c : Config} {name : List Char} {b : Byte} (h : operandValue c name = .ok b.toNat) :
    asmCommand c [.word "RTC_WR".toList, .word name, .comma, .word "0x12".toList] = .ok (.rtcWr b 0x12) := by
  have hval : operandValue c "0x12".toList = .ok 0x12 := rfl
  have hops : operandList c [.word name, .comma, .word "0x12".toList] = .ok [b.toNat, 0x12] := by
    simp only [operandList, h, hval]
  have hcmd : asmCommand c [.word "RTC_WR".toList, .word name, .comma, .word "0x12".toList]
      = asm2 .rtcWr [b.toNat, 0x12] := by
    simp only [asmCommand, hops]
    rfl
  exact hcmd.trans (asm2_toNat .rtcWr b 0x12)

/-- Settles O5: RTC_WR tags its address byte, which makes the three one (`rtcWrSeq_congr`); each line assembles as its tokens
are read. -/
theorem hourNamesPutTheSameBytesOnTheBus : Obligations.HourNamesPutTheSameBytesOnTheBus := by
  intro c v
  have hwt : tagW c (hrWt c) = tagW c (c.rtcAddrHr.setWidth 8) := tagW_tagW c _
  have hrd : tagW c (hrRd c) = tagW c (c.rtcAddrHr.setWidth 8) := tagW_tagR c _
  have lineWt : assembleLine c "RTC_WR HR_WT, 0x12" = .ok (some (0, .rtcWr (hrWt c) 0x12)) :=
    assembleLine_of_asmCommand rfl rfl (asmCommand_rtcWr (name := "HR_WT".toList) rfl)
  have lineRd : assembleLine c "RTC_WR HR_RD, 0x12" = .ok (some (0, .rtcWr (hrRd c) 0x12)) :=
    assembleLine_of_asmCommand rfl rfl (asmCommand_rtcWr (name := "HR_RD".toList) rfl)
  have lineHr : assembleLine c "RTC_WR_HR 0x12 ; hours" = .ok (some (0, .rtcWr (c.rtcAddrHr.setWidth 8) 0x12)) :=
    assembleLine_of_asmCommand rfl rfl rfl
  exact ⟨rtcWrSeq_congr c (hwt.trans hrd.symm) v, rtcWrSeq_congr c hwt v,
    congrArg Except.toOption lineWt, congrArg Except.toOption lineRd, congrArg Except.toOption lineHr⟩

end Sys2Proof.Machine

/-! SUPPORT. The statements of 40_bus_primitive.md: the micro-operations one by one (R136 to R144), arbitration and the life of
an operation (R131 to R135, R148, R149), the lines and registers that each command may write, and that every operation whose
exchanges are completed ends. What a command may write is a table (`writtenBy`), to which its micro-sequence and every run of
it keep; that operations end is an induction along the contract of R147 (`State.OnContract`). -/

namespace Sys2Proof.Machine

/-! ### Cfg, Line, TakeRx, Drain, Delay (R136 to R139, R142, R143) -/

/-- Settles O33: `loadMode` and `driveLine` are the updates, and `RS` is a line no reference peripheral sees. -/
theorem cfgAndLineMicroOperations : Obligations.CfgAndLineMicroOperations := by
  refine ⟨fun s d => rfl, fun s d l => ?_, fun s l => rfl⟩
  exact ⟨s.periph.onLine s.cfg (.cs d) (s.cs.get d) l, rfl⟩

/-- Clearing a flag that is clear changes nothing. -/
theorem State.clearDone_of_not_done (s : State) (h : s.done = false) : s.clearDone = s := by
  simp only [State.clearDone, ← h]

/-- Settles O36: `TakeRx` is `setTemp` then `clearDone`, `Drain` is `clearDone` alone. -/
theorem takeAndDrainMicroOperations : Obligations.TakeAndDrainMicroOperations := by
  intro s
  refine ⟨rfl, rfl, rfl, rfl, rfl, fun hdone => ?_⟩
  exact congrArg (fun u => Tick.moved (State.advance u)) (s.clearDone_of_not_done hdone)

theorem State.delayTick_begins (s : State) (m : Margin) (hd : s.dly = 0) (ht : marginTime s.cfg m ≠ 0) :
    s.delayTick m = { s with dly := marginTime s.cfg m } := if_pos ⟨hd, ht⟩

theorem State.delayTick_completes (s : State) (m : Margin) (h : s.dly ≠ 0 ∨ marginTime s.cfg m = 0) :
    s.delayTick m = (State.emit (.delay m) { s with dly := 0 }).advance :=
  if_neg (fun ⟨hd, ht⟩ => h.elim (fun hn => hn hd) ht)

/-- Settles O37: the two branches of `delayTick`. -/
theorem delayMicroOperation : Obligations.DelayMicroOperation := fun s m =>
  ⟨fun hd ht => congrArg Tick.moved (s.delayTick_begins m hd ht),
    fun h => congrArg Tick.moved (s.delayTick_completes m h)⟩

/-! ### Shift and its contract (R140, R147) -/

/-- The contract of `Shift` in words: the bus owned, nothing in flight, and the one device selected is the one whose mode was
loaded. -/
theorem State.shiftAllowed_iff (s : State) : s.shiftAllowed = true ↔
    s.owner ≠ none ∧ s.busy = false ∧ ∃ d, s.spmode.dev = devCode d ∧ ∀ e, s.selected e = true ↔ e = d := by
  have hone : ∀ d, (s.selected d = true ∧ ∀ e, e = d ∨ s.selected e = false) ↔ ∀ e, s.selected e = true ↔ e = d := by
    intro d
    constructor
    · rintro ⟨hd, hother⟩ e
      exact ⟨fun he => (hother e).resolve_right (by simp [he]), fun he => he ▸ hd⟩
    · intro h
      refine ⟨(h d).mpr rfl, fun e => ?_⟩
      by_cases he : e = d
      · exact .inl he
      · exact .inr (Bool.eq_false_iff.mpr (fun hs => he ((h e).mp hs)))
  have hdev : (allDevs.any fun d => s.selected d && s.spmode.dev == devCode d
        && allDevs.all fun e => decide (e = d) || !s.selected e) = true ↔
      ∃ d, s.spmode.dev = devCode d ∧ ∀ e, s.selected e = true ↔ e = d := by
    simp only [List.any_eq_true, List.all_eq_true, mem_allDevs, true_and, true_imp_iff, Bool.and_eq_true, Bool.or_eq_true,
      beq_iff_eq, decide_eq_true_eq, Bool.not_eq_true']
    refine exists_congr fun d => ?_
    rw [← hone d, and_assoc, and_left_comm]
  rw [State.shiftAllowed, Bool.and_eq_true, hdev, Bool.and_eq_true, Option.isSome_iff_ne_none, Bool.not_eq_true', and_assoc]

theorem State.microTick_shift (s : State) (o : Source) (h : s.shiftAllowed = true) :
    s.microTick (.shift o) = .moved (s.startShift (s.source o)).advance := if_pos h

/-- Settles O34: the hypotheses are the contract (`State.shiftAllowed_iff`), and each source is the byte sent. -/
theorem shiftMicroOperation : Obligations.ShiftMicroOperation := by
  intro s d out o hown hbusy hmode hsel hsource
  have hbyte : s.source o = out := by
    rcases hsource with rfl | ⟨rfl, ht⟩ | ⟨rfl, ht⟩ | ⟨rfl, ht⟩ | ⟨rfl, ht⟩
    · rfl
    all_goals exact ht
  rw [s.microTick_shift o (s.shiftAllowed_iff.mpr ⟨hown, hbusy, d, hmode, hsel⟩), hbyte]
  rfl

/-- At a `Shift` of a running operation the contract of R147 holds: what `keepsContract` asks there is about the device
selected and the mode loaded. -/
theorem State.OnContract.shift_contract {s : State} {o : Source} {ms : List Micro} (h : s.OnContract (.shift o :: ms)) :
    s.busy = false ∧ ∃ d, s.spmode.dev = devCode d ∧ ∀ e, s.selected e = true ↔ e = d := by
  obtain ⟨⟨⟨⟨_, hsome⟩, hmode⟩, _⟩, _⟩ :
      (((_ ∧ s.selectedDev.isSome = true) ∧ s.selectedDev = s.modeDev) ∧ _) ∧ _ := by
    simpa only [keepsContract, Bool.and_eq_true, decide_eq_true_eq] using h.keeps
  obtain ⟨d, hd⟩ := Option.isSome_iff_exists.mp hsome
  have hdev : s.spmode.dev = devCode d := by
    simpa using List.find?_some (show s.modeDev = some d from hmode.symm.trans hd)
  have hsel : ∀ e, s.selected e = true ↔ e = d := fun e => by rw [h.selects e, hd, Option.some_inj, eq_comm]
  exact ⟨h.notBusy rfl, d, hdev, hsel⟩

/-- Settles O53: the invariant says that the running operation is on its contract (`State.runsFor_of_inv`). -/
theorem contractHoldsAtEveryShift : Obligations.ContractHoldsAtEveryShift := by
  intro s p w i o hinv hown hw hd hshift
  obtain ⟨hlt, hget⟩ := List.getElem?_eq_some_iff.mp hshift
  have hc := (State.runsFor_of_inv hinv hown hw hd).contract
  rw [List.drop_eq_getElem_cons hlt, hget] at hc
  exact hc.shift_contract

/-! ### Wait (R141, R145) -/

theorem State.waitTick_passes (s : State) (h : s.done = true) : s.waitTick = .moved s.advance := if_pos h

theorem State.waitTick_completes (s : State) (b : Byte) (r : List Answer) (hd : s.done = false) (hb : s.busy = true)
    (ha : s.nextAnswer = some (b, r)) : s.waitTick = .moved (State.complete b { s with rx := r }) := by
  simp [State.waitTick, hd, hb, ha]

theorem State.waitTick_holds (s : State) (hd : s.done = false) (h : s.busy = false ∨ s.nextAnswer = none) :
    s.waitTick = .holds := by
  rcases h with hb | ha
  · simp [State.waitTick, hd, hb]
  · simp [State.waitTick, hd, ha]

/-- Settles O35: the branches of `waitTick`, and the head of the list of answers. -/
theorem waitMicroOperation : Obligations.WaitMicroOperation := by
  intro s
  refine ⟨s.waitTick_passes, fun hd hb b r ha => ?_, fun b r hrx => ?_, fun r hrx => ?_, s.waitTick_holds⟩
  · exact ⟨_, s.waitTick_completes b r hd hb ha⟩
  · simp only [State.nextAnswer, hrx]
  · simp only [State.nextAnswer, hrx]

/-! ### Which port is served (R131 to R133) -/

theorem lowestPort_eq_some (f : Port → Bool) (p : Port) (hp : f p = true) (hlow : ∀ q, q < p → f q = false) :
    lowestPort f = some p := by
  cases hf : lowestPort f with
  | none => cases hp.symm.trans (lowestPort_none f hf p)
  | some q =>
    obtain ⟨hq, hqlow⟩ := lowestPort_some f q hf
    rcases Nat.lt_trichotomy p.val q.val with hlt | heq | hlt
    · cases hp.symm.trans (hqlow p hlt)
    · rw [Fin.ext heq]
    · cases hq.symm.trans (hlow q hlt)

theorem lowestPort_eq_none (f : Port → Bool) (h : ∀ p, f p = false) : lowestPort f = none :=
  List.find?_eq_none.mpr (fun p _ => by simp [h p])

theorem State.immediatePending_of {s : State} {p : Port} {w : Word} (hw : s.portCmd p = some w) (hc : classify w ≠ .bus)
    (ho : s.owner ≠ some p) : s.immediatePending p = true := by
  simp [State.immediatePending, hw, hc, ho]

theorem State.busPending_of {s : State} {p : Port} {w : Word} (hw : s.portCmd p = some w) (hc : classify w = .bus) :
    s.busPending p = true := by
  simp [State.busPending, hw, hc]

/-- A word is of one class, so a port that holds a bus command has no `Immediate` step (R148). -/
theorem State.immediatePending_of_busPending (s : State) (p : Port) (h : s.busPending p = true) :
    s.immediatePending p = false := by
  obtain ⟨w, hw, hc⟩ := s.busPending_true p h
  simp [State.immediatePending, hw, hc]

/-- With no choice made, the default port is served. -/
theorem State.turn_of_no_choices (s : State) (p : Port) (hc : s.choices = []) (hp : s.defaultPort = some p) :
    s.turn = some (p, { s with serving := p }) := by
  have hnone : s.chosenPort = none := by simp only [State.chosenPort, hc]
  simp only [State.turn, hnone, hp, hc, List.tail_nil]

/-- Settles O48: the default port is the lowest with an `Immediate` step. -/
theorem immediateIsServedWhileTheBusIsOwned : Obligations.ImmediateIsServedWhileTheBusIsOwned := by
  intro s p hp hlow hc
  have hdefault : s.defaultPort = some p := by
    simp only [State.defaultPort, lowestPort_eq_some _ p hp hlow]
  exact s.turn_of_no_choices p hc hdefault

/-- The port a free bus is granted to is the sequencer's choice, the lowest with a bus command, or, under `ANY_PENDING`, the
one a choice names (R132). -/
theorem State.turn_of_busPending (s t : State) (p : Port) (ht : s.turn = some (p, t)) (hb : s.busPending p = true) :
    s.busTurn = some p ∨ (s.cfg.arbPolicy = .anyPending ∧ ∃ cs, s.choices = .grant p :: cs) := by
  have hni : s.immediatePending p ≠ true := by simp [s.immediatePending_of_busPending p hb]
  unfold State.turn at ht
  split at ht
  · rename_i q hq
    obtain ⟨rfl, -⟩ : q = p ∧ _ := by simpa only [Option.some.injEq, Prod.mk.injEq] using ht
    split at hq
    · rename_i q' hchosen
      cases hq
      unfold State.chosenPort at hchosen
      split at hchosen
      · exact .inl hchosen
      · split at hchosen <;> cases hchosen
        exact absurd ‹_› hni
      · rename_i hlist
        split at hchosen <;> cases hchosen
        rename_i hg
        exact .inr ⟨hg.2.2, _, hlist⟩
      · cases hchosen
    · unfold State.defaultPort at hq
      split at hq
      · cases hq
        exact absurd (lowestPort_some _ _ ‹_›).1 hni
      · exact .inl hq
  · cases ht

/-- Settles O45: under `FIXED_LOWEST_PORT` no choice names a port, so the lowest is granted (`State.turn_of_busPending`); an
enabled `Grant` is the turn. -/
theorem grantRule : Obligations.GrantRule := by
  intro s t p hown ht hb
  constructor
  · intro hfix q hq
    rcases s.turn_of_busPending t p ht hb with hturn | ⟨hany, _⟩
    · rcases s.busTurn_some p hturn with ho | ⟨_, _, hlow⟩
      · cases hown.symm.trans ho
      · exact hlow q hq
    · cases hfix.symm.trans hany
  · intro q cs hany hq hchoices
    have hchosen : s.chosenPort = some q := by
      simp only [State.chosenPort, hchoices, hown, hq, hany, and_self, if_true]
    simp only [State.turn, hchosen, Option.some.injEq, Prod.mk.injEq] at ht
    exact ht.1.symm

/-- Settles O46: a bus command's meaning is `runBus`, which does nothing while another port owns the bus. -/
theorem busCommandsWaitForTheOwner : Obligations.BusCommandsWaitForTheOwner := by
  intro s i p hown hne hu hok
  rw [exec_bus i s hu hok]
  simp only [runBus, hown, if_neg hne]

/-! ### Issue, and the command placed by the host (R148) -/

theorem step_of_issue (s : State) (p : Port) (w : Word) (r : List Input) (h : s.inputs = .issue p w :: r) :
    step s = State.hostIssue p w { s with inputs := r } := by
  simp only [step, State.stepOnce, h]

/-- Settles O43: the two branches of `hostIssue` on a port that exists. -/
theorem issueOnAnIdlePort : Obligations.IssueOnAnIdlePort := by
  intro s p w r hin hp
  have hport : State.portCmd { s with inputs := r } p = s.portCmd p := rfl
  rw [step_of_issue s p w r hin]
  refine ⟨fun hidle => ?_, fun hbusy => ?_⟩
  · simp only [State.hostIssue, hp, if_true, hport, hidle]
    rfl
  · obtain ⟨v, hv⟩ := Option.ne_none_iff_exists'.mp hbusy
    simp only [State.hostIssue, hp, if_true, hport, hv]

theorem State.portCmd_placeWord_zero (s : State) (w : Word) : (s.placeWord w).portCmd 0 = some w := rfl

theorem State.portCmd_placeWord_of_ne (s : State) (w : Word) (p : Port) (hp : p ≠ 0) : (s.placeWord w).portCmd p = none := by
  obtain ⟨k, hk⟩ := Nat.exists_eq_succ_of_ne_zero (fun h => hp (Fin.ext h) : p.val ≠ 0)
  by_cases hlt : k < s.ports.length - 1 <;> simp [State.portCmd, State.placeWord, hk, hlt]

/-- The word placed is served next, from the state as it is, whatever its class. -/
theorem State.turn_placeWord (s : State) (w : Word) : (s.placeWord w).turn = some (0, s.placeWord w) := by
  refine (s.placeWord w).turn_of_no_choices 0 rfl ?_
  have hlow : ∀ q : Port, ¬ q < 0 := fun q => Fin.not_lt_zero q
  unfold State.defaultPort
  by_cases hc : classify w = .bus
  · have hbus : (s.placeWord w).busPending 0 = true := State.busPending_of (s.portCmd_placeWord_zero w) hc
    have hnone : lowestPort (s.placeWord w).immediatePending = none := by
      refine lowestPort_eq_none _ (fun p => ?_)
      by_cases hp : p = 0
      · subst hp
        exact State.immediatePending_of_busPending _ _ hbus
      · simp only [State.immediatePending, s.portCmd_placeWord_of_ne w p hp]
    rw [hnone]
    exact lowestPort_eq_some _ 0 hbus (fun q hq => absurd hq (hlow q))
  · have himm : (s.placeWord w).immediatePending 0 = true :=
      State.immediatePending_of (s.portCmd_placeWord_zero w) hc (by simp [State.placeWord])
    rw [lowestPort_eq_some _ 0 himm (fun q hq => absurd hq (hlow q))]

/-- Settles O42: the placed word's port has the turn (`State.turn_placeWord`), so its command is performed. -/
theorem fetchedWordIsRun : Obligations.FetchedWordIsRun := by
  intro s w i hd
  have hword : s.withFetchWord 32 w.toNat = s.placeWord w := by
    rw [State.withFetchWord, Nat.mod_eq_of_lt w.isLt, BitVec.ofNat_toNat, BitVec.setWidth_eq]
  rw [hword]
  exact State.serve_of_command _ _ 0 w i (s.turn_placeWord w) (s.portCmd_placeWord_zero w) hd

/-! ### The end of an operation (R131, R134) -/

/-- The port owns the bus still, or it has been answered OK and the bus is free. -/
def State.HoldsOrAnswered (s t : State) (p : Port) : Prop :=
  t.owner = some p
  ∨ (t.owner = none ∧ ∃ (evs : List Event) (d : Data), t.trace = s.trace ++ evs ++ [.rsp p (responseWord .ok d)])

theorem State.holdsOrAnswered_of_runSeq {s t : State} {p : Port} (ho : s.owner = some p) (seq : List Micro)
    (hl : seq.length < 65536) (rival : Bool) (n : Nat) (must : Bool)
    (h : runSeq rival n must (seq.drop s.upc.toNat) s = .next t) : s.HoldsOrAnswered t p := by
  have hrun := runSeq_induction seq hl (fun u => u.owner = some p ∧ s.Continues u)
    (fun u ⟨hu, hc⟩ => ⟨by simpa using hu, hc.trans u.continues_tickPause⟩)
    (fun u v ⟨hu, hc⟩ hv => by
      obtain ⟨m, _, _, hm⟩ := u.seqTick_moved seq v hv
      obtain ⟨_, _, hown, _⟩ := u.microTick_frame v m hm
      exact ⟨hown.trans hu, hc.trans (State.continues_of_microTick hm)⟩)
    rival n must s t ⟨ho, .refl s⟩ h
  rcases hrun with ⟨ht, _⟩ | ⟨u, ⟨hu, hc⟩, ht⟩
  · exact .inl ht
  · obtain ⟨r, q, _, hq, rfl⟩ := u.seqTick_responded seq t ht
    cases hu.symm.trans hq
    obtain ⟨evs, hevs⟩ := hc.trace
    exact .inr ⟨rfl, evs, _, by rw [State.release_trace, hevs]⟩

/-- A command of the owner runs on; any other command leaves the owner alone. -/
theorem State.holdsOrAnswered_of_exec {s t : State} {p : Port} {i : Instr} (ho : s.owner = some p) (h : exec i s = .next t) :
    s.HoldsOrAnswered t p := by
  cases hok : i.operandsOk with
  | false =>
    cases (exec_badOperand i s hok).symm.trans h
    exact .inl ho
  | true =>
    cases hu : i.usesBus with
    | false =>
      obtain ⟨d, hex⟩ := exec_nonBus i s hu hok
      cases hex.symm.trans h
      exact .inl ho
    | true =>
      rw [exec_bus i s hu hok] at h
      rcases runBus_cases (microSeq s.cfg i) s with ⟨hfree, _⟩ | ⟨_, hrun⟩ | ⟨q, _, _, hrun⟩
      · cases hfree.symm.trans ho
      · exact State.holdsOrAnswered_of_runSeq ho _ (microSeq_length _ _) _ _ _ (hrun.symm.trans h)
      · cases hrun.symm.trans h
        exact .inl ho

theorem State.holdsOrAnswered_of_serve {s t : State} {p : Port} (ho : s.owner = some p) (h : s.serve = .next t) :
    s.HoldsOrAnswered t p := by
  rcases s.serve_cases with ⟨_, hs⟩ | ⟨q, u, hturn, hs⟩
  · cases hs.symm.trans h
    exact .inl ho
  · obtain ⟨rfl, _⟩ := s.turn_some u q hturn
    rcases hs with ⟨_, hs⟩ | ⟨_, _, _, _, hs⟩ | ⟨_, i, _, _, hs⟩
    · cases hs.symm.trans h
    · cases hs.symm.trans h
      exact .inl ho
    · exact State.holdsOrAnswered_of_exec (s := { s with serving := q, choices := s.choices.tail }) ho (hs.symm.trans h)

/-- Settles O47: of the outside agents' acts only a reset ends the ownership, and of the block's steps only the owner's
response (`State.holdsOrAnswered_of_serve`). -/
theorem ownershipEndsByResponseOrReset : Obligations.OwnershipEndsByResponseOrReset := by
  intro s t p _ ho h
  rcases step_cases s with ⟨q, w, r, _, hs⟩ | ⟨a, v, r, _, hs⟩ | ⟨r, _, hs⟩ | ⟨q, r, _, _, hs⟩ | ⟨_, hs⟩
  · obtain ⟨_, _, rfl⟩ := State.hostIssue_next q w _ t (hs.symm.trans h)
    exact .inl ho
  · cases hs.symm.trans h
    exact .inl ho
  · cases hs.symm.trans h
    exact .inr ⟨rfl, .inr ⟨_, rfl⟩⟩
  · cases hs.symm.trans h
    exact .inl ho
  · rcases State.holdsOrAnswered_of_serve (by simpa using ho) (hs.symm.trans h) with ht | ⟨ht, evs, d, htr⟩
    · exact .inl ht
    · exact .inr ⟨ht, .inl ⟨evs, d, by simpa using htr⟩⟩

/-- A list that keeps the contract ends with its only `Respond` (R134). -/
theorem keepsContract_respond_last (c : Config) (sel mode : Option Dev) (shifting : Bool) (ms : List Micro)
    (h : keepsContract c sel mode shifting ms = true) :
    ∃ (body : List Micro) (r : Bool), ms = body ++ [.respond r] ∧ ∀ r', Micro.respond r' ∉ body := by
  induction ms generalizing sel mode shifting with
  | nil => simp [keepsContract] at h
  | cons m ms ih =>
    by_cases hm : ∃ r, m = .respond r
    · obtain ⟨r, rfl⟩ := hm
      have hnil : ms = [] := by
        simp only [keepsContract, Bool.and_eq_true, List.isEmpty_iff] at h
        exact h.2
      exact ⟨[], r, by rw [hnil, List.nil_append], by simp⟩
    · have hrest : ∃ sel' mode' shifting', keepsContract c sel' mode' shifting' ms = true := by
        cases m with
        | respond r => exact absurd ⟨r, rfl⟩ hm
        | line l level =>
          cases l with
          | rs =>
            simp only [keepsContract, Bool.and_eq_true] at h
            exact ⟨_, _, _, h.2⟩
          | cs d =>
            simp only [keepsContract, Bool.and_eq_true] at h
            obtain ⟨_, h⟩ := h
            split at h
            · simp only [Bool.and_eq_true] at h
              exact ⟨_, _, _, h.2⟩
            · exact ⟨_, _, _, h⟩
        | _ =>
          simp only [keepsContract, Bool.and_eq_true] at h
          exact ⟨_, _, _, h.2⟩
      obtain ⟨sel', mode', shifting', hk⟩ := hrest
      obtain ⟨body, r, rfl, hno⟩ := ih sel' mode' shifting' hk
      refine ⟨m :: body, r, rfl, fun r' hr => ?_⟩
      rcases List.mem_cons.mp hr with he | hr
      · exact hm ⟨r', he.symm⟩
      · exact hno r' hr

/-- The list ends with a device's deselect and settle delay (R146). -/
def EndsDeselected (c : Config) (ms : List Micro) : Prop :=
  ∃ d pre, ms = pre ++ [deselect c d, .delay (.settle d)]

theorem endsDeselected_endTx (c : Config) (d : Dev) : EndsDeselected c (endTx c d) := ⟨d, [.delay (.hold d)], rfl⟩

theorem EndsDeselected.append {c : Config} {b : List Micro} (h : EndsDeselected c b) (a : List Micro) :
    EndsDeselected c (a ++ b) := by
  obtain ⟨d, pre, rfl⟩ := h
  exact ⟨d, a ++ pre, (List.append_assoc a pre _).symm⟩

theorem EndsDeselected.cons {c : Config} {b : List Micro} (h : EndsDeselected c b) (m : Micro) : EndsDeselected c (m :: b) :=
  h.append [m]

/-- A loop ends as its last turn does. -/
theorem endsDeselected_flatMap {α : Type} {c : Config} {l : List α} {body : α → List Micro} (hl : l ≠ [])
    (h : ∀ x, EndsDeselected c (body x)) : EndsDeselected c (l.flatMap body) := by
  rw [← List.dropLast_concat_getLast hl, List.flatMap_append, List.flatMap_singleton]
  exact (h _).append _

theorem endsDeselected_rtcReadTx (c : Config) (a : Byte) (i : Temp) : EndsDeselected c (rtcReadTx c a i) :=
  (endsDeselected_endTx c .rtc).append _

theorem endsDeselected_lcdByte (c : Config) (level : Bool) (b : Source) (before : Bool) :
    EndsDeselected c (lcdByte c level b before) := (endsDeselected_endTx c .lcd).append _

theorem endsDeselected_drawLine (c : Config) (line : Byte × Byte) : EndsDeselected c (drawLine c line) :=
  (endsDeselected_flatMap (by decide) (fun _ => (endsDeselected_lcdByte c _ _ _).cons _)).append _

/-- The list ends with a device's deselect and settle delay, after which it writes at most its result, and responds (R134). -/
def RespondsDeselected (c : Config) (ms : List Micro) : Prop :=
  ∃ (tx post : List Micro) (r : Bool),
    ms = tx ++ post ++ [.respond r] ∧ EndsDeselected c tx ∧ ∀ m ∈ post, ∃ f, m = Micro.setRes f

theorem EndsDeselected.respond {c : Config} {tx : List Micro} (h : EndsDeselected c tx) :
    RespondsDeselected c (tx ++ [.respond false]) := ⟨tx, [], false, by rw [List.append_nil], h, by simp⟩

theorem EndsDeselected.respondResult {c : Config} {tx : List Micro} (h : EndsDeselected c tx) (f : ResultForm) :
    RespondsDeselected c (tx ++ [.setRes f, .respond true]) :=
  ⟨tx, [.setRes f], true, by rw [List.append_assoc]; rfl, h, by simp⟩

/-- Every bus command but SNS_CFG deselects its device before it responds. -/
theorem microSeq_respondsDeselected (c : Config) (i : Instr) (hu : i.usesBus = true) (hi : i ≠ .snsCfg) :
    RespondsDeselected c (microSeq c i) := by
  cases i with
  | rtcWr a v => exact ((endsDeselected_endTx c .rtc).append _).respond
  | rtcRd a => exact (endsDeselected_rtcReadTx c a .t0).respondResult _
  | rtcBwr b a n => exact ((endsDeselected_endTx c .rtc).append _).respond
  | rtcBrd b a n => exact ((endsDeselected_endTx c .rtc).append _).respond
  | rtcTime => exact ((endsDeselected_rtcReadTx c _ .t3).append _).respondResult _
  | fmtTime b => cases hu
  | snsCfg => exact absurd rfl hi
  | snsRd => exact ((endsDeselected_endTx c .sns).append _).respondResult _
  | lcdCmd b => exact (endsDeselected_lcdByte c _ _ _).respond
  | lcdDat b => exact (endsDeselected_lcdByte c _ _ _).respond
  | lcdInit =>
    have hloop : EndsDeselected c (c.lcdInitSeq.toList.flatMap (fun b => lcdCommandByte c (.imm b))) :=
      endsDeselected_flatMap (by simp [LcdInitSeq.toList]) (fun _ => endsDeselected_lcdByte c _ _ _)
    exact (hloop.cons (.delay .lcdPowerup)).respond
  | lcdDraw x y z =>
    have hlines : EndsDeselected c ((drawLines c x y z).flatMap (drawLine c)) :=
      endsDeselected_flatMap (by simp [drawLines]) (endsDeselected_drawLine c)
    exact hlines.respond
  | crRd n => cases hu

theorem State.microTick_respond (s : State) (p : Port) (r : Bool) (h : s.owner = some p) :
    s.microTick (.respond r) = .responded (s.release p (if r then s.res else 0)) := by
  simp only [State.microTick, h]

/-- Settles O39: the contract puts the one `Respond` last (`keepsContract_respond_last`), the deselect comes before it
(`microSeq_respondsDeselected`), and its step is the release. -/
theorem operationsEndByRelease : Obligations.OperationsEndByRelease := by
  refine ⟨fun c i hu hwf => ?_, fun s p r ho => s.microTick_respond p r ho⟩
  obtain ⟨body, r, hseq, hno⟩ := keepsContract_respond_last c none none false _ (microSeq_keepsContract c none i hu hwf)
  refine ⟨body, r, hseq, hno, fun hi => ?_⟩
  obtain ⟨tx, post, r', hseq', ⟨d, pre, rfl⟩, hpost⟩ := microSeq_respondsDeselected c i hu hi
  obtain ⟨hbody, -⟩ := List.append_inj' (hseq.symm.trans hseq') rfl
  exact ⟨d, pre, post, hbody, hpost⟩

/-! ### What each command may write (R137, R170, R191, R200) -/

/-- The places that the frames of the commands speak of: the output lines, the datapath registers, and of the environment its
answers, the reference peripherals, and among them the bytes the sensor will return (R92). -/
inductive Place where
  | cs (d : Dev)
  | rs
  | temp (i : Temp)
  | res
  | rxhold
  | txbyte
  | busy
  | rx
  | periph
  | sensorBytes

/-- The bytes the sensor will return (R92). -/
def SnsRef.bytes (r : SnsRef) : Byte × Byte × Byte × Byte := (r.b1, r.b2, r.b3, r.b4)

/-- The place is in the second state as in the first. -/
def Place.Same (x : Place) (s t : State) : Prop :=
  match x with
  | .cs d => t.cs.get d = s.cs.get d
  | .rs => t.rs = s.rs
  | .temp i => t.temp i = s.temp i
  | .res => t.res = s.res
  | .rxhold => t.rxhold = s.rxhold
  | .txbyte => t.txbyte = s.txbyte
  | .busy => t.busy = s.busy
  | .rx => t.rx = s.rx
  | .periph => t.periph = s.periph
  | .sensorBytes => t.periph.sns.bytes = s.periph.sns.bytes

theorem Place.Same.refl (x : Place) (s : State) : x.Same s s := by cases x <;> rfl

theorem Place.Same.trans {x : Place} {s t u : State} (h : x.Same s t) (h' : x.Same t u) : x.Same s u := by
  cases x <;> exact Eq.trans h' h

theorem Place.same_tickPause (x : Place) (s : State) : x.Same s s.tickPause := by
  unfold State.tickPause
  split <;> cases x <;> rfl

theorem Place.same_grant (x : Place) (p : Port) (s : State) : x.Same s (s.grant p) := by cases x <;> rfl

theorem Place.same_respond (x : Place) (p : Port) (st : Status) (d : Data) (s : State) : x.Same s (s.respond p st d) := by
  cases x <;> rfl

theorem Place.same_release (x : Place) (p : Port) (d : Data) (s : State) : x.Same s (s.release p d) := by cases x <;> rfl

/-- The places a micro-operation may write. -/
def Micro.writes : Micro → List Place
  | .line (.cs d) _ => [.cs d, .periph]
  | .line .rs _ => [.rs]
  | .shift _ => [.txbyte, .busy]
  | .wait => [.rxhold, .busy, .rx, .periph]
  | .takeRx i => [.temp i]
  | .memRead _ i => [.temp i]
  | .setRes _ => [.res]
  | .cfg _ | .delay _ | .drain | .memWrite _ _ | .respond _ => []

/-- No drive of a line changes the bytes the sensor will return. -/
theorem Periph.onLine_sensorBytes (c : Config) (l : Line) (old v : Bool) (e : Periph) :
    (e.onLine c l old v).sns.bytes = e.sns.bytes := by
  unfold Periph.onLine
  split <;> try rfl
  unfold SnsRef.onLine
  split <;> rfl

/-- Nor does an exchange. -/
theorem Periph.exchange_sensorBytes (c : Config) (sel : Option Dev) (rs : Bool) (out : Byte) (e : Periph) :
    (e.exchange c sel rs out).2.sns.bytes = e.sns.bytes := by
  unfold Periph.exchange
  split <;> rfl

theorem Place.same_driveLine_cs (x : Place) (d : Dev) (v : Bool) (s : State) (hx : x ∉ [Place.cs d, .periph]) :
    x.Same s (s.driveLine (.cs d) v) := by
  cases x with
  | cs e => exact PerDev.get_set_of_ne _ _ _ _ (fun he => hx (by simp [he]))
  | periph => simp at hx
  | sensorBytes => exact Periph.onLine_sensorBytes _ _ _ _ _
  | _ => rfl

theorem Place.same_complete (x : Place) (b : Byte) (r : List Answer) (s : State)
    (hx : x ∉ [Place.rxhold, .busy, .rx, .periph]) : x.Same s (State.complete b { s with rx := r }) := by
  cases x with
  | rxhold | busy | rx | periph => simp at hx
  | sensorBytes => exact Periph.exchange_sensorBytes _ _ _ _ _
  | _ => rfl

theorem Place.same_setTemp (x : Place) (i : Temp) (v : Byte) (s : State) (hx : x ∉ [Place.temp i]) : x.Same s (s.setTemp i v) := by
  cases x with
  | temp j => exact State.setTemp_temp_of_ne i j v s (fun hj => hx (by simp [hj]))
  | _ => simp [Place.Same]

theorem Place.same_advance (x : Place) (s : State) : x.Same s s.advance := by cases x <;> rfl

theorem Place.same_emit (x : Place) (e : Event) (s : State) : x.Same s (s.emit e) := by cases x <;> rfl

theorem Place.same_clearDone (x : Place) (s : State) : x.Same s s.clearDone := by cases x <;> rfl

theorem Place.same_waitTick {x : Place} {s t : State} (h : s.waitTick = .moved t)
    (hx : x ∉ [Place.rxhold, .busy, .rx, .periph]) : x.Same s t := by
  unfold State.waitTick at h
  split at h
  · cases h
    exact x.same_advance s
  · split at h
    · split at h <;> cases h
      exact x.same_complete _ _ s hx
    · cases h

/-- A micro-operation writes no place but its own. -/
theorem Place.same_of_microTick {x : Place} {s t : State} {m : Micro} (h : s.microTick m = .moved t) (hx : x ∉ m.writes) :
    x.Same s t := by
  cases m with
  | cfg d => cases h; cases x <;> rfl
  | line l level =>
    cases h
    refine .trans ?_ (x.same_advance _)
    cases l with
    | cs d => exact x.same_driveLine_cs d level s hx
    | rs =>
      cases x with
      | rs => simp [Micro.writes] at hx
      | _ => rfl
  | delay m =>
    cases h
    unfold State.delayTick
    split <;> cases x <;> rfl
  | shift o =>
    simp only [State.microTick] at h
    split at h <;> cases h
    cases x with
    | txbyte | busy => simp [Micro.writes] at hx
    | _ => rfl
  | wait => exact Place.same_waitTick h hx
  | takeRx i =>
    cases h
    exact ((x.same_setTemp i _ s hx).trans (x.same_clearDone _)).trans (x.same_advance _)
  | drain =>
    cases h
    exact (x.same_clearDone s).trans (x.same_advance _)
  | memRead a i =>
    simp only [State.microTick] at h
    split at h <;> cases h
    exact ((x.same_setTemp i _ s hx).trans (x.same_emit _ _)).trans (x.same_advance _)
  | memWrite a i =>
    simp only [State.microTick] at h
    split at h <;> cases h
    cases x <;> rfl
  | setRes f =>
    cases h
    cases x with
    | res => simp [Micro.writes] at hx
    | _ => rfl
  | respond r =>
    simp only [State.microTick] at h
    split at h <;> cases h

/-- The micro-operations write no place outside `ps`. -/
def WritesOnly (ps : List Place) (ms : List Micro) : Prop := ∀ m ∈ ms, m.writes ⊆ ps

@[simp] theorem writesOnly_nil (ps : List Place) : WritesOnly ps [] := by simp [WritesOnly]

@[simp] theorem writesOnly_cons (ps : List Place) (m : Micro) (ms : List Micro) :
    WritesOnly ps (m :: ms) ↔ m.writes ⊆ ps ∧ WritesOnly ps ms := by simp [WritesOnly]

@[simp] theorem writesOnly_append (ps : List Place) (a b : List Micro) :
    WritesOnly ps (a ++ b) ↔ WritesOnly ps a ∧ WritesOnly ps b := by simp [WritesOnly, or_imp, forall_and]

/-- A loop writes what its turns write. -/
theorem writesOnly_flatMap {α : Type} {ps : List Place} {body : α → List Micro} (l : List α)
    (h : ∀ x, WritesOnly ps (body x)) : WritesOnly ps (l.flatMap body) := by
  intro m hm
  obtain ⟨x, _, hx⟩ := List.mem_flatMap.mp hm
  exact h x m hx

/-- What a transaction with a device writes, whatever is done with the bytes received. -/
def busPlaces (d : Dev) : List Place := [.cs d, .txbyte, .busy, .rxhold, .rx, .periph]

/-- The places each command may write. -/
def writtenBy : Instr → List Place
  | .rtcWr _ _ => busPlaces .rtc
  | .rtcRd _ => .temp .t0 :: .res :: busPlaces .rtc
  | .rtcBwr _ _ _ => .temp .t0 :: busPlaces .rtc
  | .rtcBrd _ _ _ => .temp .t0 :: busPlaces .rtc
  | .rtcTime => .temp .t1 :: .temp .t2 :: .temp .t3 :: .res :: busPlaces .rtc
  | .fmtTime _ => []
  | .snsCfg => []
  | .snsRd => .temp .t0 :: .temp .t1 :: .temp .t2 :: .temp .t3 :: .res :: busPlaces .sns
  | .lcdCmd _ => .rs :: busPlaces .lcd
  | .lcdDat _ => .rs :: busPlaces .lcd
  | .lcdInit => .rs :: busPlaces .lcd
  | .lcdDraw _ _ _ => .temp .t0 :: .rs :: busPlaces .lcd
  | .crRd _ => []

theorem writesOnly_lcdByte {ps : List Place} (h : .rs :: busPlaces .lcd ⊆ ps) (c : Config) (level : Bool) (b : Source)
    (before : Bool) : WritesOnly ps (lcdByte c level b before) := by
  simp only [busPlaces, List.cons_subset] at h
  cases before <;> simp [lcdByte, xchg, endTx, select, deselect, Micro.writes, h]

theorem writesOnly_drawLine (c : Config) (line : Byte × Byte) :
    WritesOnly (.temp .t0 :: .rs :: busPlaces .lcd) (drawLine c line) := by
  have hbyte := writesOnly_lcdByte (List.subset_cons_self (Place.temp .t0) (.rs :: busPlaces .lcd)) c
  refine (writesOnly_append _ _ _).mpr ⟨hbyte _ _ _, writesOnly_flatMap _ (fun k => ?_)⟩
  exact (writesOnly_cons _ _ _).mpr ⟨by simp [Micro.writes], hbyte _ _ _⟩

/-- Every micro-sequence keeps to its row of the table. -/
theorem microSeq_writesOnly (c : Config) (i : Instr) : WritesOnly (writtenBy i) (microSeq c i) := by
  cases i <;> simp only [microSeq, writtenBy]
  case rtcWr a v => simp [rtcWrSeq, beginTx, endTx, xchg, select, deselect, Micro.writes, busPlaces]
  case rtcRd a => simp [rtcRdSeq, rtcReadTx, beginTx, endTx, xchg, xchgTake, select, deselect, Micro.writes, busPlaces]
  case rtcBwr b a n =>
    have hloop := writesOnly_flatMap (ps := .temp .t0 :: busPlaces .rtc) (body := blockWriteByte b) (List.range n.toNat)
      (fun k => by simp [blockWriteByte, xchg, Micro.writes, busPlaces])
    simp only [busPlaces] at hloop ⊢
    simp [rtcBwrSeq, hloop, beginTx, endTx, xchg, select, deselect, Micro.writes]
  case rtcBrd b a n =>
    have hloop := writesOnly_flatMap (ps := .temp .t0 :: busPlaces .rtc) (body := blockReadByte c b) (List.range n.toNat)
      (fun k => by simp [blockReadByte, xchgTake, Micro.writes, busPlaces])
    simp only [busPlaces] at hloop ⊢
    simp [rtcBrdSeq, hloop, beginTx, endTx, xchg, select, deselect, Micro.writes]
  case rtcTime => simp [rtcTimeSeq, rtcReadTx, beginTx, endTx, xchg, xchgTake, select, deselect, Micro.writes, busPlaces]
  case fmtTime b => exact writesOnly_nil _
  case snsCfg => simp [snsCfgSeq, Micro.writes]
  case snsRd => simp [snsRdSeq, endTx, xchgTake, select, deselect, Micro.writes, busPlaces]
  case lcdCmd b => simp [lcdCmdSeq, lcdCommandByte, writesOnly_lcdByte, Micro.writes]
  case lcdDat b => simp [lcdDatSeq, lcdDataByte, writesOnly_lcdByte, Micro.writes]
  case lcdInit =>
    have hloop := writesOnly_flatMap (body := fun b => lcdCommandByte c (.imm b)) c.lcdInitSeq.toList
      (fun b => writesOnly_lcdByte (List.Subset.refl (.rs :: busPlaces .lcd)) c _ _ _)
    simp [lcdInitSeq, hloop, Micro.writes]
  case lcdDraw x y z =>
    have hloop := writesOnly_flatMap (drawLines c x y z) (writesOnly_drawLine c)
    simp [lcdDrawSeq, hloop, Micro.writes]
  case crRd n => exact writesOnly_nil _

/-- A run of micro-operations writes no place that none of them may write, nor does the response. -/
theorem Place.same_of_runSeq {x : Place} {s t : State} {seq : List Micro} (hl : seq.length < 65536)
    (hx : ∀ m ∈ seq, x ∉ m.writes) (rival : Bool) (n : Nat) (must : Bool)
    (h : runSeq rival n must (seq.drop s.upc.toNat) s = .next t) : x.Same s t := by
  have hrun := runSeq_induction seq hl (x.Same s) (fun u hu => hu.trans (x.same_tickPause u))
    (fun u v hu hv => by
      obtain ⟨m, _, hmem, hm⟩ := u.seqTick_moved seq v hv
      exact hu.trans (Place.same_of_microTick hm (hx m hmem)))
    rival n must s t (.refl x s) h
  rcases hrun with ht | ⟨u, hu, ht⟩
  · exact ht
  · obtain ⟨r, p, _, _, rfl⟩ := u.seqTick_responded seq t ht
    exact hu.trans (x.same_release p _ u)

/-- A command writes no place outside its row of the table, whether it completes, holds or stops for another agent. -/
theorem Place.same_of_exec {x : Place} {s t : State} {i : Instr} (h : exec i s = .next t) (hx : x ∉ writtenBy i) :
    x.Same s t := by
  have hseq : ∀ m ∈ microSeq s.cfg i, x ∉ m.writes := fun m hm hw => hx (microSeq_writesOnly s.cfg i m hm hw)
  cases hok : i.operandsOk with
  | false =>
    cases (exec_badOperand i s hok).symm.trans h
    exact x.same_respond _ _ _ s
  | true =>
    cases hu : i.usesBus with
    | false =>
      obtain ⟨d, hex⟩ := exec_nonBus i s hu hok
      cases hex.symm.trans h
      exact x.same_respond _ _ _ s
    | true =>
      rw [exec_bus i s hu hok] at h
      rcases runBus_cases (microSeq s.cfg i) s with ⟨_, hrun⟩ | ⟨_, hrun⟩ | ⟨p, _, _, hrun⟩
      · exact (x.same_grant s.serving s).trans
          (Place.same_of_runSeq (microSeq_length _ _) hseq _ _ _ (hrun.symm.trans h))
      · exact Place.same_of_runSeq (microSeq_length _ _) hseq _ _ _ (hrun.symm.trans h)
      · cases hrun.symm.trans h
        exact .refl x s

theorem sameTemps_of_places {s t : State} (h : ∀ i, (Place.temp i).Same s t) : SameTemps s t :=
  ⟨h .t0, h .t1, h .t2, h .t3⟩

/-- Settles O29: the rows of the RTC commands in the table hold no other line, and of the temporaries and `RES` only those the
command reads into (`Place.same_of_exec`). -/
theorem rtcCommandsFrame : Obligations.RtcCommandsFrame := by
  intro i s t hi h
  have keep : ∀ x, x ∉ writtenBy i → x.Same s t := fun x => Place.same_of_exec h
  have outside : ∀ x ∈ [Place.cs .sns, .cs .lcd, .rs, .sensorBytes], x ∉ writtenBy i := by
    rcases hi with ⟨a, v, rfl⟩ | ⟨a, rfl⟩ | ⟨b, a, c, rfl⟩ | ⟨b, a, c, rfl⟩ | rfl <;> simp [writtenBy, busPlaces]
  have hsensor : t.periph.sns.bytes = s.periph.sns.bytes := keep .sensorBytes (outside _ (by simp))
  simp only [SnsRef.bytes, Prod.mk.injEq] at hsensor
  obtain ⟨hb1, hb2, hb3, hb4⟩ := hsensor
  refine ⟨keep (.cs .sns) (outside _ (by simp)), keep (.cs .lcd) (outside _ (by simp)), keep .rs (outside _ (by simp)),
    hb1, hb2, hb3, hb4, ?_, ?_, ?_, ?_⟩
  · rintro ⟨a, v, rfl⟩
    exact ⟨sameTemps_of_places (fun j => keep (.temp j) (by simp [writtenBy, busPlaces])),
      keep .res (by simp [writtenBy, busPlaces])⟩
  · intro hblock
    have hregs : ∀ x ∈ [Place.temp .t1, .temp .t2, .temp .t3, .res], x ∉ writtenBy i := by
      rcases hblock with ⟨b, a, c, rfl⟩ | ⟨b, a, c, rfl⟩ <;> simp [writtenBy, busPlaces]
    exact ⟨keep (.temp .t1) (hregs _ (by simp)), keep (.temp .t2) (hregs _ (by simp)),
      keep (.temp .t3) (hregs _ (by simp)), keep .res (hregs _ (by simp))⟩
  · rintro ⟨a, rfl⟩
    have htemp : ∀ j, j ≠ .t0 → (Place.temp j).Same s t := fun j hj => keep _ (by simp [writtenBy, busPlaces, hj])
    exact ⟨htemp .t1 (by simp), htemp .t2 (by simp), htemp .t3 (by simp)⟩
  · rintro rfl
    exact keep (.temp .t0) (by simp [writtenBy, busPlaces])

/-- Settles O30: the row of SNS_CFG in the table is empty, that of SNS_RD holds no other line (`Place.same_of_exec`). -/
theorem sensorCommandsFrame : Obligations.SensorCommandsFrame := by
  intro i s t hi h
  have keep : ∀ x, x ∉ writtenBy i → x.Same s t := fun x => Place.same_of_exec h
  have outside : ∀ x ∈ [Place.cs .rtc, .cs .lcd, .rs], x ∉ writtenBy i := by
    rcases hi with rfl | rfl <;> simp [writtenBy, busPlaces]
  refine ⟨keep (.cs .rtc) (outside _ (by simp)), keep (.cs .lcd) (outside _ (by simp)), keep .rs (outside _ (by simp)), ?_⟩
  rintro rfl
  have all : ∀ x : Place, x.Same s t := fun x => keep x List.not_mem_nil
  exact ⟨all (.cs .sns), sameTemps_of_places (fun j => all (.temp j)), all .res, all .rxhold, all .txbyte, all .busy, all .rx,
    all .periph⟩

/-- Settles O31: the rows of the LCD commands in the table hold no other line, no `RES`, and of the temporaries only LCD_DRAW's
`T0` (`Place.same_of_exec`). -/
theorem lcdCommandsFrame : Obligations.LcdCommandsFrame := by
  intro i s t hi h
  have keep : ∀ x, x ∉ writtenBy i → x.Same s t := fun x => Place.same_of_exec h
  have outside : ∀ x ∈ [Place.cs .rtc, .cs .sns, .res, .temp .t1, .temp .t2, .temp .t3], x ∉ writtenBy i := by
    rcases hi with ⟨b, rfl⟩ | ⟨b, rfl⟩ | rfl | ⟨a, b, c, rfl⟩ <;> simp [writtenBy, busPlaces]
  refine ⟨keep (.cs .rtc) (outside _ (by simp)), keep (.cs .sns) (outside _ (by simp)), keep .res (outside _ (by simp)),
    keep (.temp .t1) (outside _ (by simp)), keep (.temp .t2) (outside _ (by simp)), keep (.temp .t3) (outside _ (by simp)),
    fun hdraw => keep (.temp .t0) ?_⟩
  rcases hi with ⟨b, rfl⟩ | ⟨b, rfl⟩ | rfl | ⟨a, b, c, rfl⟩
  · simp [writtenBy, busPlaces]
  · simp [writtenBy, busPlaces]
  · simp [writtenBy, busPlaces]
  · exact absurd rfl (hdraw a b c)

/-! ### Every operation whose exchanges are completed ends (R135, R149) -/

/-- A whole micro-operation is one step of the sequencer, or the first of two leaves it the next one. -/
theorem microTick_of_fastMicro {s t : State} {m : Micro} (hd : s.dly = 0) (h : fastMicro s m = some t) :
    s.microTick m = .moved t ∨ ∃ u, s.microTick m = .moved u ∧ u.upc = s.upc ∧ u.microTick m = .moved t := by
  cases m with
  | delay m =>
    cases h
    by_cases hz : marginTime s.cfg m = 0
    · exact .inl (congrArg Tick.moved (s.delayTick_completes m (.inr hz)))
    · refine .inr ⟨{ s with dly := marginTime s.cfg m }, congrArg Tick.moved (s.delayTick_begins m hd hz), rfl, ?_⟩
      exact congrArg Tick.moved (State.delayTick_completes { s with dly := marginTime s.cfg m } m (.inl hz))
  | wait =>
    simp only [fastMicro] at h
    split at h
    · cases h
      exact .inl (s.waitTick_passes ‹_›)
    · rename_i hdone
      split at h
      · split at h
        · rename_i hb _ b r ha
          cases h
          exact .inr ⟨_, s.waitTick_completes b r (Bool.eq_false_iff.mpr hdone) hb ha, rfl, State.waitTick_passes _ rfl⟩
        · cases h
      · cases h
  | shift o =>
    simp only [fastMicro] at h
    split at h <;> cases h
    exact .inl (s.microTick_shift o ‹_›)
  | memRead a i =>
    simp only [fastMicro] at h
    split at h <;> cases h
    exact .inl (s.microTick_memRead a i ‹_›)
  | memWrite a i =>
    simp only [fastMicro] at h
    split at h <;> cases h
    exact .inl (s.microTick_memWrite a i ‹_›)
  | respond r => cases h
  | _ => exact .inl (congrArg Tick.moved (Option.some.inj h))

theorem State.continues_of_fastMicro {s t : State} {m : Micro} (hd : s.dly = 0) (h : fastMicro s m = some t) :
    s.Continues t := by
  rcases microTick_of_fastMicro hd h with ht | ⟨u, hu, _, ht⟩
  · exact State.continues_of_microTick ht
  · exact (State.continues_of_microTick hu).trans (State.continues_of_microTick ht)

/-- A whole micro-operation keeps the contract for those after it. -/
theorem State.OnContract.after_fastMicro {s t : State} {m : Micro} {ms : List Micro} (h : s.OnContract (m :: ms)) (hd : s.dly = 0)
    (ht : fastMicro s m = some t) : t.OnContract ms := by
  obtain ⟨_, _, _, hupc, _⟩ := fastMicro_frame s t m ht hd
  rcases microTick_of_fastMicro hd ht with hm | ⟨u, hu, hheld, hm⟩
  · have hc := h.microTick hm
    rwa [remaining_completed m ms s t hupc] at hc
  · have hc := h.microTick hu
    rw [remaining_held _ s u hheld] at hc
    have hc' := hc.microTick hm
    rwa [remaining_completed m ms u t (by rw [hupc, hheld])] at hc'

/-- The environment's answers begin with one for each exchange that is in flight or still to be started, none of them `never`;
`rest` remain after them. -/
def State.AnswersAll (s : State) (ms : List Micro) (rest : List Answer) : Prop :=
  ∃ ans, s.rx = ans ++ rest ∧ ans.length = s.busy.toNat + exchangeCount ms ∧ .never ∉ ans

/-- Outside an exchange, a micro-operation that starts none uses no answer. -/
theorem State.AnswersAll.of_same {s t : State} {ms ms' : List Micro} {rest : List Answer} (h : s.AnswersAll ms rest)
    (hrx : t.rx = s.rx) (hb : t.busy.toNat + exchangeCount ms' = s.busy.toNat + exchangeCount ms) : t.AnswersAll ms' rest := by
  obtain ⟨ans, hans, hlen, hne⟩ := h
  exact ⟨ans, hrx.trans hans, hlen.trans hb.symm, hne⟩

theorem exchangeCount_shift (o : Source) (ms : List Micro) : exchangeCount (.shift o :: ms) = 1 + exchangeCount ms := by
  simp [exchangeCount, Nat.add_comm]

theorem exchangeCount_wait (ms : List Micro) : exchangeCount (.wait :: ms) = exchangeCount ms := rfl

/-- While an exchange is in flight its answer is there, and using it leaves those of the exchanges after it. -/
theorem State.AnswersAll.nextAnswer {s : State} {ms : List Micro} {rest : List Answer} (h : s.AnswersAll ms rest)
    (hb : s.busy = true) : ∃ b r, s.nextAnswer = some (b, r) ∧
      ∃ ans, r = ans ++ rest ∧ ans.length = exchangeCount ms ∧ .never ∉ ans := by
  obtain ⟨ans, hrx, hlen, hne⟩ := h
  cases ans with
  | nil =>
    simp only [List.length_nil, hb, Bool.toNat_true] at hlen
    omega
  | cons a ans =>
    have hcount : ans.length = exchangeCount ms := by
      simp only [List.length_cons, hb, Bool.toNat_true] at hlen
      omega
    have hrest : ∃ ans', ans ++ rest = ans' ++ rest ∧ ans'.length = exchangeCount ms ∧ .never ∉ ans' :=
      ⟨ans, rfl, hcount, fun hn => hne (List.mem_cons_of_mem a hn)⟩
    cases a with
    | byte b => exact ⟨b, _, by simp only [State.nextAnswer, hrx, List.cons_append], hrest⟩
    | reference => exact ⟨s.referenceReply.1, _, by simp only [State.nextAnswer, hrx, List.cons_append], hrest⟩
    | never => simp at hne

/-- `Wait` passes, after the completion if the exchange is in flight still (R141, R145). -/
theorem State.OnContract.exists_fastMicro_wait {s : State} {ms : List Micro} {rest : List Answer}
    (h : s.OnContract (.wait :: ms)) (ha : s.AnswersAll (.wait :: ms) rest) :
    ∃ t, fastMicro s .wait = some t ∧ t.AnswersAll ms rest := by
  have hx : s.busy ≠ s.done := by simpa [atWait] using h.exchange
  cases hdone : s.done with
  | true => exact ⟨s.advance, by simp only [fastMicro, hdone, if_true], ha.of_same rfl rfl⟩
  | false =>
    have hb : s.busy = true := by simpa [hdone] using hx
    obtain ⟨b, r, hn, ans, hr, hlen, hne⟩ := ha.nextAnswer hb
    exact ⟨(State.complete b { s with rx := r }).advance, by simp [fastMicro, hdone, hb, hn],
      ans, hr, by simpa [exchangeCount_wait] using hlen, hne⟩

/-- On the contract, with the bus owned and its exchanges answered, every micro-operation but `Respond` is enabled. -/
theorem State.OnContract.exists_fastMicro {s : State} {m : Micro} {ms : List Micro} {rest : List Answer}
    (h : s.OnContract (m :: ms)) (hm : ∀ r, m ≠ .respond r) (ho : s.owner ≠ none) (ha : s.AnswersAll (m :: ms) rest) :
    ∃ t, fastMicro s m = some t ∧ t.AnswersAll ms rest := by
  cases m with
  | wait => exact h.exists_fastMicro_wait ha
  | shift o =>
    obtain ⟨hb, hdev⟩ := h.shift_contract
    refine ⟨_, if_pos (s.shiftAllowed_iff.mpr ⟨ho, hb, hdev⟩), ha.of_same rfl ?_⟩
    simp [hb, exchangeCount_shift]
  | memRead a i =>
    have hlt : a < dmemSize := by
      have hk := h.keeps
      simp only [keepsContract, Bool.and_eq_true, decide_eq_true_eq] at hk
      exact hk.1.2
    exact ⟨_, if_pos hlt, ha.of_same (by simp) (by simp [exchangeCount])⟩
  | memWrite a i =>
    have hlt : a < dmemSize := by
      have hk := h.keeps
      simp only [keepsContract, Bool.and_eq_true, decide_eq_true_eq] at hk
      exact hk.1.2
    exact ⟨_, if_pos hlt, ha.of_same (by simp) (by simp [exchangeCount])⟩
  | respond r => exact absurd rfl (hm r)
  | _ => exact ⟨_, rfl, ha.of_same (by simp) (by simp [exchangeCount])⟩

/-- Micro-operations on the contract, with their exchanges answered, run to the `Respond`: the induction along the contract. -/
theorem State.OnContract.exists_fastRun {body : List Micro} {r : Bool} {s : State} {rest : List Answer}
    (hno : ∀ r', Micro.respond r' ∉ body) (h : s.OnContract (body ++ [.respond r])) (hd : s.dly = 0) (ho : s.owner ≠ none)
    (ha : s.AnswersAll (body ++ [.respond r]) rest) :
    ∃ t, fastRun body s = some t ∧ s.Continues t ∧ t.OnContract [.respond r] ∧ t.AnswersAll [.respond r] rest := by
  induction body generalizing s with
  | nil => exact ⟨s, rfl, .refl s, h, ha⟩
  | cons m body ih =>
    obtain ⟨u, hu, hau⟩ := h.exists_fastMicro (fun r' hm => hno r' (by simp [hm])) ho ha
    obtain ⟨_, hown, _, _, hdu, _⟩ := fastMicro_frame s u m hu hd
    obtain ⟨t, ht, hcont, hct, hat⟩ :=
      ih (fun r' hr => hno r' (List.mem_cons_of_mem m hr)) (h.after_fastMicro hd hu) hdu (hown ▸ ho) hau
    exact ⟨t, by rw [fastRun_cons, hu]; exact ht, (State.continues_of_fastMicro hd hu).trans hcont, hct, hat⟩

theorem PerDev.eq_of_get {α : Type} {v w : PerDev α} (h : ∀ d, v.get d = w.get d) : v = w := by
  cases v
  cases w
  exact PerDev.mk.injEq .. ▸ ⟨h .rtc, h .sns, h .lcd⟩

/-- Two states with everything deselected under one configuration have the same levels of the chip-select lines (R35). -/
theorem State.cs_eq_of_allDeselected {s t : State} (hcfg : t.cfg = s.cfg) (hs : s.allDeselected = true)
    (ht : t.allDeselected = true) : t.cs = s.cs := by
  refine PerDev.eq_of_get (fun d => ?_)
  have hsd := s.allDeselected_iff.mp hs d
  have htd := t.allDeselected_iff.mp ht d
  simp only [State.selected, hcfg, beq_eq_false_iff_ne] at hsd htd
  exact (Bool.eq_not_of_ne htd).trans (Bool.eq_not_of_ne hsd).symm

theorem State.readyFor_iff (s : State) (i : Instr) : s.readyFor i = true ↔
    s.portCmd s.serving = some (encode i) ∧ s.busFree = true ∧ s.inputs = [] ∧ s.rivalPending s.serving = false := by
  simp [State.readyFor, State.undisturbed, and_assoc]

/-- Settles O23: the grant puts the operation on the contract of its whole micro-sequence, along which it runs to its `Respond`
(`State.OnContract.exists_fastRun`); the run of the machine is that run and the release (`runBus_ready`). -/
theorem everyBusOperationEndsIfAnswered : Obligations.EveryBusOperationEndsIfAnswered := by
  intro s i ans rest hu hwf hready hrx hlen hnever
  obtain ⟨hport, hfree, hin, hrival⟩ := (s.readyFor_iff i).mp hready
  obtain ⟨hown, hbusy, hoff, _, _, hdly⟩ := s.busFree_iff.mp hfree
  have hgrant : (s.grant s.serving).OnContract (microSeq s.cfg i) :=
    (State.RunsFor.grant hfree hport (decodeOfEncodeIsTheCommand i) hu hwf).contract
  obtain ⟨body, r, hseq, hno⟩ := keepsContract_respond_last s.cfg none none false _ (microSeq_keepsContract _ none i hu hwf)
  have hans : (s.grant s.serving).AnswersAll (microSeq s.cfg i) rest :=
    ⟨ans, hrx, by simpa [hbusy] using hlen, fun hn => hnever _ hn rfl⟩
  rw [hseq] at hgrant hans
  obtain ⟨t, hrun, hcont, hct, hat⟩ := hgrant.exists_fastRun hno hdly (by simp) hans
  obtain ⟨_, _, _, hports, _, hinputs, hdt, hserving, hcfg, hchoices, _⟩ :=
    runSeq_fastRun body [.respond r] (s.grant s.serving) t hin hdly hrun
  obtain ⟨hofft, hbt, _⟩ := hct.respond
  have hend : exec i s = .next (t.release s.serving (if r then t.res else 0)) := by
    rw [exec_bus i s hu hwf, hseq]
    exact runBus_ready body r s t hown hin hrival hdly hrun
  have hcs : t.cs = s.cs := State.cs_eq_of_allDeselected hcfg hoff hofft
  obtain ⟨evs, hevs⟩ := hcont.trace
  have htrace : (t.release s.serving (if r then t.res else 0)).trace
      = s.trace ++ evs ++ [.rsp s.serving (responseWord .ok (if r then t.res else 0))] := by
    rw [State.release_trace, ← hevs, State.grant_trace]
  have hrest : t.rx = rest := by
    obtain ⟨ans', hrxt, hlent, _⟩ := hat
    have hnil : ans' = [] := List.eq_nil_of_length_eq_zero (by simpa [hbt, exchangeCount] using hlent)
    rw [hrxt, hnil, List.nil_append]
  have hfreed : (t.release s.serving (if r then t.res else 0)).ports = s.ports.set s.serving.val none := by
    rw [State.release_ports, hports, State.grant_ports]
  exact ⟨_, _, evs, hend, ⟨hfreed, rfl, rfl, rfl, hbt, hdt, hcs, htrace, hcfg, hserving, hinputs, hchoices⟩, hrest⟩

end Sys2Proof.Machine

/-! SUPPORT. The statements of 41_rtc.md: the tag of the address byte (R171), FMT_TIME (R178), which bytes of DMEM a command may
write, and what each RTC command does (R173 to R177). A transaction's brackets and an exchange are each one update of the state
(`State.begun`, `State.exchanged`, `State.ended`), to which the micro-operations run (`fastRun_beginTx`, `fastRun_xchg`,
`fastRun_endTx`); a command's run is their composition, a block transfer's loop keeps `State.AfterBytes`, and `exec_completes`
turns a run to the `Respond` into the command's meaning. Last, the reference environment's RTC loops back (S8). -/

namespace Sys2Proof.Machine

/-! ### The address byte (R171) -/

/-- The low seven bits of a byte, as a byte. -/
theorem setWidth_extractLsb'_seven (a : Byte) : (a.extractLsb' 0 7).setWidth 8 = a &&& 0x7F := by
  apply BitVec.eq_of_toNat_eq
  have hmask : a.toNat &&& (2 ^ 7 - 1) = a.toNat % 2 ^ 7 := Nat.and_two_pow_sub_one_eq_mod _ 7
  have hfits : a.toNat % 128 % 256 = a.toNat % 128 := by omega
  simpa [hfits] using hmask.symm

/-- A tag bit in front of an operand's low seven bits (R171). -/
theorem tag_append_eq_or (tag : Bool) (a : Byte) :
    BitVec.ofBool tag ++ a.extractLsb' 0 7 = ((BitVec.ofBool tag).setWidth 8 <<< 7 ||| (a &&& 0x7F)) := by
  have h := setWidth_append_eq_or 8 (BitVec.ofBool tag) (a.extractLsb' 0 7)
  rwa [BitVec.setWidth_eq, setWidth_extractLsb'_seven] at h

/-- Operands equal but for bit 7 have the same register number. -/
theorem extractLsb'_seven_congr {a b : Byte} (h : a &&& 0x7F = b &&& 0x7F) : a.extractLsb' 0 7 = b.extractLsb' 0 7 := by
  have hlow : ∀ x : Byte, x.extractLsb' 0 7 = (x &&& 0x7F).setWidth 7 := fun x => by
    rw [← setWidth_extractLsb'_seven, BitVec.setWidth_setWidth_of_le _ (by decide), BitVec.setWidth_eq]
  rw [hlow, hlow, h]

theorem tagW_congr (c : Config) {a b : Byte} (h : a &&& 0x7F = b &&& 0x7F) : tagW c a = tagW c b := by
  rw [tagW, tagW, extractLsb'_seven_congr h]

theorem tagR_congr (c : Config) {a b : Byte} (h : a &&& 0x7F = b &&& 0x7F) : tagR c a = tagR c b := by
  rw [tagR, tagR, extractLsb'_seven_congr h]

/-- The two forms differ in bit 7 only. -/
theorem tagW_xor_tagR (c : Config) (a : Byte) : tagW c a ^^^ tagR c a = 0x80 := by
  rw [tagW, tagR, BitVec.xor_append, BitVec.xor_self]
  cases c.rtcWriteTag <;> rfl

/-- With the write tag 1 the write form sets bit 7. -/
theorem tagW_of_tag (c : Config) (a : Byte) (h : c.rtcWriteTag = true) : tagW c a = a ||| 0x80 := by
  have hsplit : a.extractLsb' 7 1 ++ a.extractLsb' 0 7 = a :=
    (BitVec.extractLsb'_append_extractLsb'_eq_extractLsb' rfl).trans BitVec.extractLsb'_eq_self
  calc tagW c a
    _ = BitVec.allOnes 1 ++ a.extractLsb' 0 7 := by rw [tagW, h]; rfl
    _ = (a.extractLsb' 7 1 ||| BitVec.allOnes 1) ++ (a.extractLsb' 0 7 ||| 0#7) := by
      rw [BitVec.or_allOnes, BitVec.or_zero]
    _ = a.extractLsb' 7 1 ++ a.extractLsb' 0 7 ||| (BitVec.allOnes 1 ++ 0#7) := BitVec.or_append.symm
    _ = a ||| 0x80 := by rw [hsplit]; rfl

/-- With the write tag 1 the read form clears bit 7. -/
theorem tagR_of_tag (c : Config) (a : Byte) (h : c.rtcWriteTag = true) : tagR c a = a &&& 0x7F := by
  rw [tagR, h, tag_append_eq_or]
  exact BitVec.zero_or

/-- Settles O6: each form is its tag bit in front of the operand's low seven bits; the transactions' first bytes are read off
the micro-sequences. -/
theorem addressByteIsTaggedByTheBlock : Obligations.AddressByteIsTaggedByTheBlock := fun c a _ =>
  ⟨tag_append_eq_or c.rtcWriteTag a, tag_append_eq_or (!c.rtcWriteTag) a, tagW_xor_tagR c a,
    fun h => ⟨tagW_congr c h, tagR_congr c h⟩, fun h => ⟨tagW_of_tag c a h, tagR_of_tag c a h⟩,
    fun _ _ => ⟨rfl, rfl, rfl, rfl⟩, rfl, rfl, rfl⟩

/-! ### FMT_TIME (R178, R179) -/

/-- A byte's nibbles as numbers. -/
theorem bcdToDecimal_eq (b : Byte) : bcdToDecimal b = b.toNat / 16 * 10 + b.toNat % 16 := by
  have hlt : b.toNat / 16 % 16 = b.toNat / 16 := Nat.mod_eq_of_lt (by omega)
  simp [bcdToDecimal, Nat.shiftRight_eq_div_pow, hlt]

theorem toNat_and_fifteen (b : Byte) : (b &&& 0x0F).toNat = b.toNat % 16 := by
  rw [BitVec.toNat_and]
  exact Nat.and_two_pow_sub_one_eq_mod _ 4

/-- Settles O7: a number below 60 is the value of the byte of its two digits, and of no other byte whose digits are decimal. -/
theorem bcdRoundTrips : Obligations.BcdRoundTrips := by
  refine ⟨fun b => by rw [bcdToDecimal_eq]; omega, fun n hn => ?_⟩
  have hdigits : (BitVec.ofNat 8 (n / 10 * 16 + n % 10)).toNat = n / 10 * 16 + n % 10 := Nat.mod_eq_of_lt (by omega)
  refine ⟨BitVec.ofNat 8 (n / 10 * 16 + n % 10), ?_, ?_, ?_, fun b hb hones hval => ?_⟩
  · rw [hdigits]; omega
  · rw [toNat_and_fifteen, hdigits]; omega
  · rw [bcdToDecimal_eq, hdigits]; omega
  · rw [bcdToDecimal_eq] at hval
    rw [toNat_and_fifteen] at hones
    apply BitVec.eq_of_toNat_eq
    rw [hdigits]
    omega

/-- Settles O21: FMT_TIME is its answer, and the nibbles are the byte shifted and masked. -/
theorem fmtTimeCompletes : Obligations.FmtTimeCompletes := by
  intro s bcd
  have hval : (bcd >>> 4).toNat * 10 + (bcd &&& 0x0F).toNat = bcdToDecimal bcd := by
    rw [bcdToDecimal_eq, toNat_and_fifteen, BitVec.toNat_ushiftRight, Nat.shiftRight_eq_div_pow]
  rw [hval]
  rfl

/-! ### Which bytes of DMEM a command may write (R175, R176, R206) -/

/-- The DMEM addresses a command may write. -/
def dmemWrittenBy : Instr → List Nat
  | .rtcBrd buf _ count => (List.range count.toNat).map (bufferAddr buf)
  | _ => []

theorem memWrite_not_mem_lcdByte (c : Config) (level before : Bool) (byte : Source) (a : Nat) (i : Temp) :
    Micro.memWrite a i ∉ lcdByte c level byte before := by
  cases before <;> simp [lcdByte, select, deselect, xchg, endTx]

theorem memWrite_not_mem_drawLine (c : Config) (line : Byte × Byte) (a : Nat) (i : Temp) :
    Micro.memWrite a i ∉ drawLine c line := by
  simp [drawLine, lcdCommandByte, lcdDataByte, memWrite_not_mem_lcdByte]

/-- The only `MemWrite` of any micro-sequence is the one of RTC_BRD's loop. -/
theorem mem_dmemWrittenBy_of_memWrite_mem {c : Config} {instr : Instr} {a : Nat} {i : Temp}
    (h : Micro.memWrite a i ∈ microSeq c instr) : a ∈ dmemWrittenBy instr := by
  cases instr <;> simp only [microSeq] at h
  case rtcBrd buf addr count =>
    obtain ⟨k, hk, rfl, -⟩ : ∃ k < count.toNat, a = bufferAddr buf k ∧ i = .t0 := by
      simpa [rtcBrdSeq, beginTx, endTx, xchg, xchgTake, select, deselect, blockReadByte] using h
    exact List.mem_map.mpr ⟨k, List.mem_range.mpr hk, rfl⟩
  case rtcWr addr value => simp [rtcWrSeq, beginTx, endTx, xchg, select, deselect] at h
  case rtcRd addr => simp [rtcRdSeq, rtcReadTx, beginTx, endTx, xchg, xchgTake, select, deselect] at h
  case rtcBwr buf addr count => simp [rtcBwrSeq, beginTx, endTx, xchg, select, deselect, blockWriteByte] at h
  case rtcTime => simp [rtcTimeSeq, rtcReadTx, beginTx, endTx, xchg, xchgTake, select, deselect] at h
  case fmtTime b => cases h
  case snsCfg => simp [snsCfgSeq] at h
  case snsRd => simp [snsRdSeq, endTx, xchgTake, select, deselect] at h
  case lcdCmd b => simp [lcdCmdSeq, lcdCommandByte, memWrite_not_mem_lcdByte] at h
  case lcdDat b => simp [lcdDatSeq, lcdDataByte, memWrite_not_mem_lcdByte] at h
  case lcdInit => simp [lcdInitSeq, lcdCommandByte, memWrite_not_mem_lcdByte] at h
  case lcdDraw x y z => simp [lcdDrawSeq, memWrite_not_mem_drawLine] at h
  case crRd n => cases h

/-- A micro-operation leaves every byte of DMEM but the one it writes. -/
theorem State.read_dmem_of_microTick {s t : State} {m : Micro} {a : Nat} (h : s.microTick m = .moved t)
    (hm : ∀ i, m ≠ .memWrite a i) : t.dmem.read a = s.dmem.read a := by
  cases m with
  | memWrite b i =>
    simp only [State.microTick] at h
    split at h <;> cases h
    exact Memory.read_write_of_ne _ b a _ (fun he => hm i (he ▸ rfl))
  | wait =>
    simp only [State.microTick] at h
    unfold State.waitTick at h
    split at h
    · cases h; rfl
    · split at h
      · split at h <;> cases h
        rfl
      · cases h
  | shift o => simp only [State.microTick] at h; split at h <;> cases h; rfl
  | memRead b i => simp only [State.microTick] at h; split at h <;> cases h; simp
  | respond r => simp only [State.microTick] at h; split at h <;> cases h
  | _ => cases h; simp

/-- A run that has no `MemWrite` at an address leaves that byte of DMEM, and so does the response. -/
theorem State.read_dmem_of_runSeq {s t : State} {seq : List Micro} {a : Nat} (hl : seq.length < 65536)
    (ha : ∀ i, Micro.memWrite a i ∉ seq) (rival : Bool) (n : Nat) (must : Bool)
    (h : runSeq rival n must (seq.drop s.upc.toNat) s = .next t) : t.dmem.read a = s.dmem.read a := by
  have hrun := runSeq_induction seq hl (fun u => u.dmem.read a = s.dmem.read a) (fun u hu => by simpa using hu)
    (fun u v hu hv => by
      obtain ⟨m, _, hmem, hm⟩ := u.seqTick_moved seq v hv
      exact (State.read_dmem_of_microTick hm (fun i he => ha i (he ▸ hmem))).trans hu)
    rival n must s t rfl h
  rcases hrun with ht | ⟨u, hu, ht⟩
  · exact ht
  · obtain ⟨r, p, _, _, rfl⟩ := u.seqTick_responded seq t ht
    exact hu

/-- A command leaves every byte of DMEM that it may not write, however far it comes. -/
theorem State.read_dmem_of_exec {s t : State} {i : Instr} {a : Nat} (h : exec i s = .next t) (ha : a ∉ dmemWrittenBy i) :
    t.dmem.read a = s.dmem.read a := by
  have hseq : ∀ j, Micro.memWrite a j ∉ microSeq s.cfg i := fun j hm => ha (mem_dmemWrittenBy_of_memWrite_mem hm)
  have hlen : (microSeq s.cfg i).length < 65536 := microSeq_length s.cfg i
  cases hok : i.operandsOk with
  | false =>
    cases (exec_badOperand i s hok).symm.trans h
    rfl
  | true =>
    cases hu : i.usesBus with
    | false =>
      obtain ⟨d, hex⟩ := exec_nonBus i s hu hok
      cases hex.symm.trans h
      rfl
    | true =>
      rw [exec_bus i s hu hok] at h
      rcases runBus_cases (microSeq s.cfg i) s with ⟨_, hrun⟩ | ⟨_, hrun⟩ | ⟨p, _, _, hrun⟩
      · exact State.read_dmem_of_runSeq (s := s.grant s.serving) hlen hseq _ _ _ (hrun.symm.trans h)
      · exact State.read_dmem_of_runSeq hlen hseq _ _ _ (hrun.symm.trans h)
      · cases hrun.symm.trans h
        rfl

/-- Settles O28: no micro-sequence but RTC_BRD's has a `MemWrite`, and its loop's are in the buffer
(`mem_dmemWrittenBy_of_memWrite_mem`). -/
theorem onlyBlockReadWritesDmem : Obligations.OnlyBlockReadWritesDmem := by
  refine ⟨fun i s t hi h a => State.read_dmem_of_exec h ?_, fun buf addr count s t h a ha => State.read_dmem_of_exec h ?_⟩
  · cases i with
    | rtcBrd buf addr count => exact absurd rfl (hi buf addr count)
    | _ => exact List.not_mem_nil
  · intro hmem
    obtain ⟨k, hk, rfl⟩ := List.mem_map.mp hmem
    exact ha k (List.mem_range.mp hk) rfl

/-! ### Transactions and exchanges as updates of the state (R144 to R146) -/

/-- What `Begin(d)` does to the state (R146). -/
def State.begun (d : Dev) (s : State) : State :=
  { s with
    spmode := loadedMode s.cfg d
    cs     := s.cs.set d (s.cfg.csActive.get d)
    periph := s.periph.onLine s.cfg (.cs d) (s.cs.get d) (s.cfg.csActive.get d)
    dly    := 0
    upc    := s.upc + 3
    trace  := s.trace ++ beginEvents s.cfg d }

/-- What `End(d)` does to the state (R146). -/
def State.ended (d : Dev) (s : State) : State :=
  { s with
    cs     := s.cs.set d (!s.cfg.csActive.get d)
    periph := s.periph.onLine s.cfg (.cs d) (s.cs.get d) (!s.cfg.csActive.get d)
    dly    := 0
    upc    := s.upc + 3
    trace  := s.trace ++ endEvents s.cfg d }

/-- What an exchange with `d` does that the environment answers with `inp`, `r` being the answers it has left (R144, R145). -/
def State.exchanged (d : Dev) (out inp : Byte) (r : List Answer) (s : State) : State :=
  { s with
    txbyte := out
    busy   := false
    done   := true
    rxhold := inp
    rx     := r
    periph := (s.periph.exchange s.cfg (some d) s.rs out).2
    upc    := s.upc + 2
    trace  := s.trace ++ [.exch out inp] }

/-- What `x[i] <- TakeRx()` does (R142). -/
def State.taken (i : Temp) (s : State) : State := (s.setTemp i s.rxhold).clearDone.advance

@[simp] theorem State.taken_cfg (i : Temp) (s : State) : (s.taken i).cfg = s.cfg := by simp [State.taken]
@[simp] theorem State.taken_cs (i : Temp) (s : State) : (s.taken i).cs = s.cs := by simp [State.taken]

/-- An operation runs, and the one device selected is `d`, whose mode is loaded; no exchange is in flight. -/
structure State.InTransaction (s : State) (d : Dev) : Prop where
  owned   : s.owner ≠ none
  idle    : s.busy = false
  mode    : s.spmode.dev = devCode d
  selects : s.Selects (some d)

/-- An operation runs, and no device is selected. -/
structure State.BetweenTransactions (s : State) : Prop where
  owned   : s.owner ≠ none
  idle    : s.busy = false
  selects : s.Selects none

theorem State.InTransaction.selectedDev {s : State} {d : Dev} (h : s.InTransaction d) : s.selectedDev = some d :=
  ((s.selects_iff _).mp h.selects).2

theorem State.InTransaction.shiftAllowed {s : State} {d : Dev} (h : s.InTransaction d) : s.shiftAllowed = true :=
  s.shiftAllowed_iff.mpr ⟨h.owned, h.idle, d, h.mode, fun e => by rw [h.selects e, Option.some_inj, eq_comm]⟩

theorem State.BetweenTransactions.begun {s : State} (h : s.BetweenTransactions) (d : Dev) : (s.begun d).InTransaction d :=
  ⟨h.owned, h.idle, rfl, (h.selects.select d (.inl rfl)).congr rfl rfl⟩

theorem State.InTransaction.ended {s : State} {d : Dev} (h : s.InTransaction d) : (s.ended d).BetweenTransactions := by
  have hoff : (s.driveLine (.cs d) (!s.cfg.csActive.get d)).Selects none := by
    simpa using h.selects.deselect d (!s.cfg.csActive.get d) (by simp)
  exact ⟨h.owned, h.idle, hoff.congr rfl rfl⟩

theorem State.InTransaction.exchanged {s : State} {d : Dev} (h : s.InTransaction d) (out inp : Byte) (r : List Answer) :
    (s.exchanged d out inp r).InTransaction d := ⟨h.owned, rfl, h.mode, h.selects.congr rfl rfl⟩

theorem State.InTransaction.taken {s : State} {d : Dev} (h : s.InTransaction d) (i : Temp) : (s.taken i).InTransaction d :=
  ⟨by simpa [State.taken] using h.owned, by simpa [State.taken] using h.idle, by simpa [State.taken] using h.mode,
    h.selects.congr (by simp) (by simp)⟩

/-- The grant of a ready command is between transactions (R132). -/
theorem State.betweenTransactions_of_ready {s : State} {i : Instr} (h : s.readyFor i = true) :
    (s.grant s.serving).BetweenTransactions := by
  obtain ⟨_, hfree, _⟩ := (s.readyFor_iff i).mp h
  obtain ⟨_, hidle, hoff, _⟩ := s.busFree_iff.mp hfree
  exact ⟨by simp, hidle, (s.selects_none_iff.mpr hoff).congr rfl rfl⟩

/-! ### Their runs -/

theorem fastRun_append_of {a b : List Micro} {s t u : State} (ha : fastRun a s = some t) (hb : fastRun b t = some u) :
    fastRun (a ++ b) s = some u := by
  rw [fastRun_append, ha]
  exact hb

/-- A loop keeps what each of its turns keeps. -/
theorem fastRun_range {body : Nat → List Micro} {P : Nat → State → Prop} {s : State} (n : Nat) (h0 : P 0 s)
    (hturn : ∀ k u, k < n → P k u → ∃ v, fastRun (body k) u = some v ∧ P (k + 1) v) :
    ∃ u, fastRun ((List.range n).flatMap body) s = some u ∧ P n u := by
  induction n with
  | zero => exact ⟨s, rfl, h0⟩
  | succ n ih =>
    obtain ⟨u, hu, hPu⟩ := ih (fun k v hk => hturn k v (by omega))
    obtain ⟨v, hv, hPv⟩ := hturn n u (by omega) hPu
    refine ⟨v, ?_, hPv⟩
    rw [List.range_succ, List.flatMap_append, List.flatMap_singleton]
    exact fastRun_append_of hu hv

theorem fastRun_beginTx {c : Config} {s : State} (hc : s.cfg = c) (d : Dev) : fastRun (beginTx c d) s = some (s.begun d) := by
  subst hc
  simp [beginTx, select, fastRun, fastMicro, State.begun, State.loadMode, State.driveLine, State.emit, State.advance,
    State.level, lineEvent, beginEvents, loadedMode, BitVec.add_assoc]

theorem fastRun_endTx {c : Config} {s : State} (hc : s.cfg = c) (d : Dev) : fastRun (endTx c d) s = some (s.ended d) := by
  subst hc
  simp [endTx, deselect, fastRun, fastMicro, State.ended, State.driveLine, State.emit, State.advance,
    State.level, lineEvent, endEvents, BitVec.add_assoc]

/-- Which device is selected depends on the levels and the configuration. -/
theorem State.selectedDev_congr {s t : State} (hcs : t.cs = s.cs) (hcfg : t.cfg = s.cfg) : t.selectedDev = s.selectedDev := by
  simp only [State.selectedDev, State.selected_congr s t _ hcs hcfg]

/-- The `Wait` of an exchange with the selected device, with the completion it waits for. -/
theorem fastMicro_wait_startShift {s : State} {d : Dev} {out inp : Byte} {r : List Answer} (hsel : s.selectedDev = some d)
    (ha : (s.startShift out).nextAnswer = some (inp, r)) :
    fastMicro (s.startShift out).advance .wait = some (s.exchanged d out inp r) := by
  have ha' : (s.startShift out).advance.nextAnswer = some (inp, r) := ha
  have hsel' : ∀ t : State, t.cs = s.cs → t.cfg = s.cfg → t.selectedDev = some d := fun t hcs hcfg =>
    (State.selectedDev_congr hcs hcfg).trans hsel
  calc fastMicro (s.startShift out).advance .wait
    _ = some (State.complete inp { (s.startShift out).advance with rx := r }).advance := by simp [fastMicro, ha']
    _ = some (s.exchanged d out inp r) := by
      simp [State.complete, State.referenceReply, hsel', State.exchanged, State.finishShift, State.emit, State.advance,
        State.startShift, BitVec.add_assoc]

theorem fastRun_xchg {s : State} {d : Dev} {o : Source} {inp : Byte} {r : List Answer} (h : s.InTransaction d)
    (ha : (s.startShift (s.source o)).nextAnswer = some (inp, r)) :
    fastRun (xchg o) s = some (s.exchanged d (s.source o) inp r) := by
  have hshift : fastMicro s (.shift o) = some (s.startShift (s.source o)).advance := if_pos h.shiftAllowed
  simp only [xchg, fastRun, hshift, fastMicro_wait_startShift h.selectedDev ha]

theorem fastRun_xchgTake {s : State} {d : Dev} {o : Source} {inp : Byte} {r : List Answer} (h : s.InTransaction d)
    (ha : (s.startShift (s.source o)).nextAnswer = some (inp, r)) (i : Temp) :
    fastRun (xchgTake o i) s = some ((s.exchanged d (s.source o) inp r).taken i) :=
  fastRun_append_of (a := xchg o) (b := [.takeRx i]) (fastRun_xchg h ha) rfl

/-- A listed byte answers the exchange, whatever the reference peripherals hold. -/
theorem State.nextAnswer_of_byte {s : State} {b : Byte} {r : List Answer} (h : s.rx = .byte b :: r) :
    s.nextAnswer = some (b, r) := by
  simp only [State.nextAnswer, h]

/-! ### The end of an answered operation -/

/-- An operation that runs to its `Respond` after the events `evs`, with the answer `d` in `RES` if it has one, is done
(`everyBusOperationEndsIfAnswered`). -/
theorem exec_completes {s u : State} {i : Instr} {ans rest : List Answer} {body : List Micro} {withRes : Bool} {d : Data}
    {evs : List Event} (hi : i.usesBus = true ∧ i.wellFormed = true) (hready : s.readyFor i = true) (hrx : s.rx = ans ++ rest)
    (hlen : ans.length = exchangeCount (microSeq s.cfg i)) (hnever : .never ∉ ans)
    (hseq : microSeq s.cfg i = body ++ [.respond withRes]) (hrun : fastRun body (s.grant s.serving) = some u)
    (hres : (if withRes then u.res else 0) = d) (htrace : u.trace = s.trace ++ evs) :
    exec i s = .next (u.release s.serving d) ∧ OperationDone s (u.release s.serving d) d evs ∧ u.rx = rest := by
  obtain ⟨hu, hwf⟩ := hi
  obtain ⟨_, hfree, hin, hrival⟩ := (s.readyFor_iff i).mp hready
  obtain ⟨hown, _, _, _, _, hdly⟩ := s.busFree_iff.mp hfree
  have hexec : exec i s = .next (u.release s.serving d) := by
    rw [exec_bus i s hu hwf, hseq, ← hres]
    exact runBus_ready body withRes s u hown hin hrival hdly hrun
  obtain ⟨t, _, _, ht, hdone, hrest⟩ :=
    everyBusOperationEndsIfAnswered s i ans rest hu hwf hready hrx hlen (fun a ha hn => hnever (hn ▸ ha))
  obtain rfl : t = u.release s.serving d := by
    cases ht.symm.trans hexec
    rfl
  obtain ⟨hports, ho, hop, hupc, hb, hdl, hcs, _, hframe⟩ := hdone
  exact ⟨hexec, ⟨hports, ho, hop, hupc, hb, hdl, hcs, by rw [State.release_trace, htrace], hframe⟩, hrest⟩

/-! ### RTC_WR (R173) -/

/-- A single-register write: the tagged address, then the value (R173). -/
def State.wroteRegister (addr value i1 i2 : Byte) (r1 r2 : List Answer) (s : State) : State :=
  (((s.begun .rtc).exchanged .rtc (tagW s.cfg addr) i1 r1).exchanged .rtc value i2 r2).ended .rtc

theorem fastRun_rtcWr {s : State} {addr value i1 i2 : Byte} {r1 r2 : List Answer} (h : s.BetweenTransactions)
    (h1 : ((s.begun .rtc).startShift (tagW s.cfg addr)).nextAnswer = some (i1, r1))
    (h2 : (((s.begun .rtc).exchanged .rtc (tagW s.cfg addr) i1 r1).startShift value).nextAnswer = some (i2, r2)) :
    fastRun (beginTx s.cfg .rtc ++ xchg (.imm (tagW s.cfg addr)) ++ xchg (.imm value) ++ endTx s.cfg .rtc) s
      = some (s.wroteRegister addr value i1 i2 r1 r2) := by
  have htx : (s.begun .rtc).InTransaction .rtc := h.begun .rtc
  have htx1 := htx.exchanged (tagW s.cfg addr) i1 r1
  have haddr := fastRun_append_of (fastRun_beginTx rfl .rtc) (fastRun_xchg (o := .imm (tagW s.cfg addr)) htx h1)
  have hvalue := fastRun_append_of haddr (fastRun_xchg (o := .imm value) htx1 h2)
  have hc : (((s.begun .rtc).exchanged .rtc (tagW s.cfg addr) i1 r1).exchanged .rtc value i2 r2).cfg = s.cfg := rfl
  exact fastRun_append_of hvalue (fastRun_endTx hc .rtc)

theorem State.wroteRegister_trace (addr value i1 i2 : Byte) (r1 r2 : List Answer) (s : State) :
    (s.wroteRegister addr value i1 i2 r1 r2).trace
      = s.trace ++ rtcTxEvents s.cfg [.exch (tagW s.cfg addr) i1, .exch value i2] := by
  simp [State.wroteRegister, State.begun, State.exchanged, State.ended, rtcTxEvents]

/-- RTC_WR is one transaction of two exchanges, however the environment answers them. -/
theorem exec_rtcWr {s : State} {addr value i1 i2 : Byte} {x y : Answer} {rest : List Answer}
    (hready : s.readyFor (.rtcWr addr value) = true) (hrx : s.rx = x :: y :: rest) (hnever : .never ∉ [x, y])
    (h1 : (((s.grant s.serving).begun .rtc).startShift (tagW s.cfg addr)).nextAnswer = some (i1, y :: rest))
    (h2 : ((((s.grant s.serving).begun .rtc).exchanged .rtc (tagW s.cfg addr) i1 (y :: rest)).startShift value).nextAnswer
      = some (i2, rest)) :
    ∃ t, exec (.rtcWr addr value) s = .next t
      ∧ t = ((s.grant s.serving).wroteRegister addr value i1 i2 (y :: rest) rest).release s.serving 0
      ∧ OperationDone s t 0 (rtcTxEvents s.cfg [.exch (tagW s.cfg addr) i1, .exch value i2]) := by
  have hbetween := State.betweenTransactions_of_ready hready
  obtain ⟨hexec, hdone, -⟩ := exec_completes (ans := [x, y]) (withRes := false) ⟨rfl, rfl⟩ hready hrx rfl hnever rfl
    (fastRun_rtcWr hbetween h1 h2) rfl (State.wroteRegister_trace ..)
  exact ⟨_, hexec, rfl, hdone⟩

/-- Settles O10: the state RTC_WR leaves is `State.wroteRegister`'s. -/
theorem rtcWrCompletes : Obligations.RtcWrCompletes := by
  intro s addr value i1 i2 rest hready hrx
  obtain ⟨_, hexec, rfl, hdone⟩ :=
    exec_rtcWr hready hrx (by simp) (State.nextAnswer_of_byte hrx) (State.nextAnswer_of_byte rfl)
  refine ⟨_, hexec, hdone, ?_⟩
  simp [State.wroteRegister, State.begun, State.exchanged, State.ended, Periph.onLine, Periph.exchange, SameDmem, SameTemps]

/-! ### RTC_RD and RTC_TIME (R174, R177) -/

/-- A single-register read: the tagged address, then the dummy, the byte received with it taken into `x[i]` (R174). -/
def State.readRegister (i : Temp) (addr i1 i2 : Byte) (r1 r2 : List Answer) (s : State) : State :=
  ((((s.begun .rtc).exchanged .rtc (tagR s.cfg addr) i1 r1).exchanged .rtc s.cfg.dummyByte i2 r2).taken i).ended .rtc

theorem fastRun_rtcReadTx {c : Config} {s : State} {addr i1 i2 : Byte} {r1 r2 : List Answer} (i : Temp) (hc : s.cfg = c)
    (h : s.BetweenTransactions) (h1 : ((s.begun .rtc).startShift (tagR s.cfg addr)).nextAnswer = some (i1, r1))
    (h2 : (((s.begun .rtc).exchanged .rtc (tagR s.cfg addr) i1 r1).startShift s.cfg.dummyByte).nextAnswer = some (i2, r2)) :
    fastRun (rtcReadTx c addr i) s = some (s.readRegister i addr i1 i2 r1 r2)
      ∧ (s.readRegister i addr i1 i2 r1 r2).BetweenTransactions := by
  subst hc
  have htx : (s.begun .rtc).InTransaction .rtc := h.begun .rtc
  have htx1 := htx.exchanged (tagR s.cfg addr) i1 r1
  have haddr := fastRun_append_of (fastRun_beginTx rfl .rtc) (fastRun_xchg (o := .imm (tagR s.cfg addr)) htx h1)
  have hvalue := fastRun_append_of haddr (fastRun_xchgTake (o := .imm s.cfg.dummyByte) htx1 h2 i)
  have hc : ((((s.begun .rtc).exchanged .rtc (tagR s.cfg addr) i1 r1).exchanged .rtc s.cfg.dummyByte i2 r2).taken i).cfg
      = s.cfg := State.taken_cfg _ _
  exact ⟨fastRun_append_of hvalue (fastRun_endTx hc .rtc), ((htx1.exchanged s.cfg.dummyByte i2 r2).taken i).ended⟩

/-- The same with two listed bytes. -/
theorem fastRun_rtcReadTx_of_bytes {c : Config} {s : State} {i1 i2 : Byte} {rest : List Answer} (addr : Byte) (i : Temp)
    (hc : s.cfg = c) (h : s.BetweenTransactions) (hrx : s.rx = .byte i1 :: .byte i2 :: rest) :
    fastRun (rtcReadTx c addr i) s = some (s.readRegister i addr i1 i2 (.byte i2 :: rest) rest)
      ∧ (s.readRegister i addr i1 i2 (.byte i2 :: rest) rest).BetweenTransactions :=
  fastRun_rtcReadTx i hc h (State.nextAnswer_of_byte hrx) (State.nextAnswer_of_byte rfl)

section
variable (i : Temp) (addr i1 i2 : Byte) (r1 r2 : List Answer) (s : State)

@[simp] theorem State.readRegister_cfg : (s.readRegister i addr i1 i2 r1 r2).cfg = s.cfg := by
  simp [State.readRegister, State.begun, State.exchanged, State.taken, State.ended]

@[simp] theorem State.readRegister_rx : (s.readRegister i addr i1 i2 r1 r2).rx = r2 := by
  simp [State.readRegister, State.begun, State.exchanged, State.taken, State.ended]

@[simp] theorem State.readRegister_res : (s.readRegister i addr i1 i2 r1 r2).res = s.res := by
  simp [State.readRegister, State.begun, State.exchanged, State.taken, State.ended]

@[simp] theorem State.readRegister_spmode : (s.readRegister i addr i1 i2 r1 r2).spmode = loadedMode s.cfg .rtc := by
  simp [State.readRegister, State.begun, State.exchanged, State.taken, State.ended]

@[simp] theorem State.readRegister_done : (s.readRegister i addr i1 i2 r1 r2).done = false := by
  simp [State.readRegister, State.begun, State.exchanged, State.taken, State.ended]

@[simp] theorem State.readRegister_rxhold : (s.readRegister i addr i1 i2 r1 r2).rxhold = i2 := by
  simp [State.readRegister, State.begun, State.exchanged, State.taken, State.ended]

@[simp] theorem State.readRegister_txbyte : (s.readRegister i addr i1 i2 r1 r2).txbyte = s.cfg.dummyByte := by
  simp [State.readRegister, State.begun, State.exchanged, State.taken, State.ended]

@[simp] theorem State.readRegister_rs : (s.readRegister i addr i1 i2 r1 r2).rs = s.rs := by
  simp [State.readRegister, State.begun, State.exchanged, State.taken, State.ended]

@[simp] theorem State.readRegister_dmem : (s.readRegister i addr i1 i2 r1 r2).dmem = s.dmem := by
  simp [State.readRegister, State.begun, State.exchanged, State.taken, State.ended]

@[simp] theorem State.readRegister_t0 : (s.readRegister i addr i1 i2 r1 r2).t0 = if i = .t0 then i2 else s.t0 := by
  cases i <;> simp [State.readRegister, State.begun, State.exchanged, State.taken, State.setTemp, State.ended]

@[simp] theorem State.readRegister_t1 : (s.readRegister i addr i1 i2 r1 r2).t1 = if i = .t1 then i2 else s.t1 := by
  cases i <;> simp [State.readRegister, State.begun, State.exchanged, State.taken, State.setTemp, State.ended]

@[simp] theorem State.readRegister_t2 : (s.readRegister i addr i1 i2 r1 r2).t2 = if i = .t2 then i2 else s.t2 := by
  cases i <;> simp [State.readRegister, State.begun, State.exchanged, State.taken, State.setTemp, State.ended]

@[simp] theorem State.readRegister_t3 : (s.readRegister i addr i1 i2 r1 r2).t3 = if i = .t3 then i2 else s.t3 := by
  cases i <;> simp [State.readRegister, State.begun, State.exchanged, State.taken, State.setTemp, State.ended]

@[simp] theorem State.readRegister_sns : (s.readRegister i addr i1 i2 r1 r2).periph.sns = s.periph.sns := by
  simp [State.readRegister, State.begun, State.exchanged, State.taken, State.ended, Periph.onLine, Periph.exchange]

@[simp] theorem State.readRegister_lcd : (s.readRegister i addr i1 i2 r1 r2).periph.lcd = s.periph.lcd := by
  simp [State.readRegister, State.begun, State.exchanged, State.taken, State.ended, Periph.onLine, Periph.exchange]

@[simp] theorem State.readRegister_trace :
    (s.readRegister i addr i1 i2 r1 r2).trace = s.trace ++ rtcReadEvents s.cfg addr i1 i2 := by
  simp [State.readRegister, State.begun, State.exchanged, State.taken, State.ended, rtcReadEvents, rtcTxEvents]

end

/-- RTC_RD is one read transaction, however the environment answers it, and answers the second byte. -/
theorem exec_rtcRd {s : State} {addr i1 i2 : Byte} {x y : Answer} {rest : List Answer}
    (hready : s.readyFor (.rtcRd addr) = true) (hrx : s.rx = x :: y :: rest) (hnever : .never ∉ [x, y])
    (h1 : (((s.grant s.serving).begun .rtc).startShift (tagR s.cfg addr)).nextAnswer = some (i1, y :: rest))
    (h2 : ((((s.grant s.serving).begun .rtc).exchanged .rtc (tagR s.cfg addr) i1 (y :: rest)).startShift
      s.cfg.dummyByte).nextAnswer = some (i2, rest)) :
    ∃ t, exec (.rtcRd addr) s = .next t
      ∧ t = ((((s.grant s.serving).readRegister .t0 addr i1 i2 (y :: rest) rest).setRes (byteData i2)).advance).release
          s.serving (byteData i2)
      ∧ OperationDone s t (byteData i2) (rtcReadEvents s.cfg addr i1 i2) := by
  have hbetween := State.betweenTransactions_of_ready hready
  obtain ⟨hread, -⟩ := fastRun_rtcReadTx .t0 rfl hbetween h1 h2
  have hsetRes : fastRun [.setRes .readByte] ((s.grant s.serving).readRegister .t0 addr i1 i2 (y :: rest) rest)
      = some (((s.grant s.serving).readRegister .t0 addr i1 i2 (y :: rest) rest).setRes (byteData i2)).advance := by
    simp [fastRun, fastMicro, State.result]
  have hrun := fastRun_append_of hread hsetRes
  obtain ⟨hexec, hdone, -⟩ := exec_completes (i := .rtcRd addr) (ans := [x, y]) (withRes := true)
    (evs := rtcReadEvents s.cfg addr i1 i2) ⟨rfl, rfl⟩ hready hrx rfl hnever rfl hrun rfl (by simp)
  exact ⟨_, hexec, rfl, hdone⟩

/-- Settles O11: the state RTC_RD leaves is `State.readRegister`'s, with the byte in `RES`. -/
theorem rtcRdCompletes : Obligations.RtcRdCompletes := by
  intro s addr i1 i2 rest hready hrx
  obtain ⟨_, hexec, rfl, hdone⟩ :=
    exec_rtcRd hready hrx (by simp) (State.nextAnswer_of_byte hrx) (State.nextAnswer_of_byte rfl)
  refine ⟨_, hexec, hdone, ?_⟩
  simp [SameDmem, byteData]

/-- Settles O14: RTC_TIME is three read transactions (`fastRun_rtcReadTx`), whose bytes it answers. -/
theorem rtcTimeCompletes : Obligations.RtcTimeCompletes := by
  intro s i1 h i2 m i3 sec rest hready hrx
  have hbetween := State.betweenTransactions_of_ready hready
  obtain ⟨hhours, hbetween1⟩ := fastRun_rtcReadTx_of_bytes (c := s.cfg) (s := s.grant s.serving)
    (registerByte s.cfg.rtcAddrHr) .t1 rfl hbetween hrx
  obtain ⟨hminutes, hbetween2⟩ := fastRun_rtcReadTx_of_bytes (c := s.cfg) (i1 := i2) (i2 := m)
    (registerByte s.cfg.rtcAddrMin) .t2 (by simp) hbetween1 (State.readRegister_rx ..)
  obtain ⟨hseconds, _⟩ := fastRun_rtcReadTx_of_bytes (c := s.cfg) (i1 := i3) (i2 := sec)
    (registerByte s.cfg.rtcAddrSec) .t3 (by simp) hbetween2 (State.readRegister_rx ..)
  have hrun := fastRun_append_of (fastRun_append_of (fastRun_append_of hhours hminutes) hseconds) (b := [.setRes .time]) rfl
  obtain ⟨hexec, hdone, -⟩ := exec_completes (i := .rtcTime)
    (ans := [.byte i1, .byte h, .byte i2, .byte m, .byte i3, .byte sec]) (withRes := true) (d := timeData h m sec)
    (evs := rtcReadEvents s.cfg (registerByte s.cfg.rtcAddrHr) i1 h
      ++ rtcReadEvents s.cfg (registerByte s.cfg.rtcAddrMin) i2 m ++ rtcReadEvents s.cfg (registerByte s.cfg.rtcAddrSec) i3 sec)
    ⟨rfl, rfl⟩ hready hrx rfl (by simp) rfl hrun (by simp [State.result]) (by simp)
  refine ⟨_, hexec, hdone, ?_⟩
  simp [SameDmem]

/-! ### The bytes of a block transfer (R175, R176) -/

theorem answersOf_succ (n : Nat) (f : Nat → Byte) :
    answersOf (n + 1) f = .byte (f 0) :: answersOf n (fun k => f (k + 1)) := by
  simp [answersOf, List.range_succ_eq_map]

/-- The answer to exchange `k`, and those after it. -/
theorem drop_answersOf {n k : Nat} (hk : k < n) (f : Nat → Byte) (rest : List Answer) :
    (answersOf n f ++ rest).drop k = .byte (f k) :: (answersOf n f ++ rest).drop (k + 1) := by
  have hlen : k < (answersOf n f).length := by simpa [answersOf] using hk
  have hlen' : k < (answersOf n f ++ rest).length := by rw [List.length_append]; omega
  have hget : (answersOf n f ++ rest)[k] = .byte (f k) := by
    rw [List.getElem_append_left hlen]
    simp [answersOf]
  rw [List.drop_eq_getElem_cons hlen', hget]

theorem exchangeCount_append (a b : List Micro) : exchangeCount (a ++ b) = exchangeCount a + exchangeCount b := by
  simp [exchangeCount]

/-- A loop of one exchange a turn. -/
theorem exchangeCount_flatMap_range (n : Nat) (body : Nat → List Micro) (h : ∀ k, exchangeCount (body k) = 1) :
    exchangeCount ((List.range n).flatMap body) = n := by
  induction n with
  | zero => rfl
  | succ n ih => rw [List.range_succ, List.flatMap_append, List.flatMap_singleton, exchangeCount_append, ih, h]

/-- What `MemRead` of `a` into `T0` does (R62). -/
def State.loadedByte (a : Nat) (s : State) : State :=
  { s with
    t0    := s.dmem.read a
    upc   := s.upc + 1
    trace := s.trace ++ [.memRead a (s.dmem.read a)] }

/-- What taking the received byte into `T0` and writing it at `a` does (R142, R62). -/
def State.storedByte (a : Nat) (s : State) : State :=
  { s with
    t0    := s.rxhold
    done  := false
    dmem  := s.dmem.write a s.rxhold
    upc   := s.upc + 2
    trace := s.trace ++ [.memWrite a s.rxhold] }

theorem fastRun_memRead (s : State) {a : Nat} (ha : a < dmemSize) : fastRun [.memRead a .t0] s = some (s.loadedByte a) := by
  simp [fastRun, fastMicro, ha, State.loadedByte, State.setTemp, State.emit, State.advance]

theorem fastRun_takeRx_memWrite (s : State) {a : Nat} (ha : a < dmemSize) :
    fastRun [.takeRx .t0, .memWrite a .t0] s = some (s.storedByte a) := by
  simp [fastRun, fastMicro, ha, State.storedByte, State.setTemp, State.clearDone, State.temp, State.emit, State.advance,
    BitVec.add_assoc]

/-- `u` is `k` bytes of a block transfer after `s`, in the same transaction: the exchanges have been answered, the last with
`f k`, and the events are `evs`. -/
structure State.AfterBytes (s u : State) (f : Nat → Byte) (k : Nat) (evs : List Event) : Prop where
  tx     : u.InTransaction .rtc
  cfg    : u.cfg = s.cfg
  spmode : u.spmode = s.spmode
  rx     : u.rx = s.rx.drop k
  rxhold : u.rxhold = f k
  sns    : u.periph.sns = s.periph.sns
  lcd    : u.periph.lcd = s.periph.lcd
  trace  : u.trace = s.trace ++ evs

section
variable {s u : State} {f : Nat → Byte} {k : Nat} {evs : List Event}

theorem State.AfterBytes.refl (h : s.InTransaction .rtc) (hf : s.rxhold = f 0) : s.AfterBytes s f 0 [] :=
  ⟨h, rfl, rfl, rfl, hf, rfl, rfl, (List.append_nil _).symm⟩

theorem State.AfterBytes.exchanged (h : s.AfterBytes u f k evs) (out : Byte) :
    s.AfterBytes (u.exchanged .rtc out (f (k + 1)) (s.rx.drop (k + 1))) f (k + 1) (evs ++ [.exch out (f (k + 1))]) :=
  ⟨h.tx.exchanged .., h.cfg, h.spmode, rfl, rfl, h.sns, h.lcd, by simp [State.exchanged, h.trace]⟩

theorem State.AfterBytes.loadedByte (h : s.AfterBytes u f k evs) (a : Nat) :
    s.AfterBytes (u.loadedByte a) f k (evs ++ [.memRead a (u.dmem.read a)]) := by
  obtain ⟨⟨hown, hidle, hmode, hsel⟩, hcfg, hspmode, hrx, hhold, hsns, hlcd, htrace⟩ := h
  exact ⟨⟨hown, hidle, hmode, hsel.congr rfl rfl⟩, hcfg, hspmode, hrx, hhold, hsns, hlcd,
    by simp [State.loadedByte, htrace]⟩

theorem State.AfterBytes.storedByte (h : s.AfterBytes u f k evs) (a : Nat) :
    s.AfterBytes (u.storedByte a) f k (evs ++ [.memWrite a (f k)]) := by
  obtain ⟨⟨hown, hidle, hmode, hsel⟩, hcfg, hspmode, hrx, hhold, hsns, hlcd, htrace⟩ := h
  exact ⟨⟨hown, hidle, hmode, hsel.congr rfl rfl⟩, hcfg, hspmode, hrx, hhold, hsns, hlcd,
    by simp [State.storedByte, htrace, hhold]⟩

/-- The next exchange of the transfer. -/
theorem State.AfterBytes.fastRun_xchg {n : Nat} {rest : List Answer} (h : s.AfterBytes u f k evs) (hk : k < n)
    (hrx : s.rx = answersOf n (fun k => f (k + 1)) ++ rest) (o : Source) :
    fastRun (xchg o) u = some (u.exchanged .rtc (u.source o) (f (k + 1)) (s.rx.drop (k + 1))) := by
  have hnext : u.rx = .byte (f (k + 1)) :: s.rx.drop (k + 1) := by rw [h.rx, hrx, drop_answersOf hk]
  exact Machine.fastRun_xchg h.tx (State.nextAnswer_of_byte hnext)

end

/-- The loop of RTC_BWR (R175). -/
theorem fastRun_blockWrite {s : State} {buf : Byte} {n : Nat} {f : Nat → Byte} {rest : List Answer}
    (h : s.InTransaction .rtc) (hf : s.rxhold = f 0) (hdone : s.done = true) (hb : buf.toNat + n ≤ 256)
    (hrx : s.rx = answersOf n (fun k => f (k + 1)) ++ rest) :
    ∃ u, fastRun ((List.range n).flatMap (blockWriteByte buf)) s = some u
      ∧ s.AfterBytes u f n (blockWriteEvents s.dmem buf n f) ∧ u.done = true ∧ u.dmem = s.dmem := by
  refine fastRun_range (P := fun k u =>
    s.AfterBytes u f k (blockWriteEvents s.dmem buf k f) ∧ u.done = true ∧ u.dmem = s.dmem) n ⟨.refl h hf, hdone, rfl⟩ ?_
  rintro k u hk ⟨hafter, -, hmem⟩
  have haddr : bufferAddr buf k < dmemSize := by simp only [bufferAddr, dmemSize]; omega
  have hload := hafter.loadedByte (bufferAddr buf k)
  refine ⟨_, fastRun_append_of (a := [.memRead (bufferAddr buf k) .t0]) (fastRun_memRead u haddr)
    (hload.fastRun_xchg hk hrx (.temp .t0)), ?_, rfl, hmem⟩
  have hevents : blockWriteEvents s.dmem buf (k + 1) f = blockWriteEvents s.dmem buf k f
      ++ [.memRead (bufferAddr buf k) (u.dmem.read (bufferAddr buf k))]
      ++ [.exch (u.dmem.read (bufferAddr buf k)) (f (k + 1))] := by
    simp [blockWriteEvents, List.range_succ, hmem]
  rw [hevents]
  exact hload.exchanged _

/-- DMEM after `n` received bytes are written from `buf` on. -/
def storedBlock (m : Memory) (buf : Byte) (f : Nat → Byte) : Nat → Memory
  | 0 => m
  | n + 1 => (storedBlock m buf f n).write (bufferAddr buf n) (f (n + 1))

theorem storedBlock_wf {m : Memory} {buf : Byte} (f : Nat → Byte) {n : Nat} (hm : m.wf dmemSize = true)
    (hb : buf.toNat + n ≤ 256) : (storedBlock m buf f n).wf dmemSize = true := by
  induction n with
  | zero => exact hm
  | succ n ih =>
    have haddr : bufferAddr buf n < dmemSize := by simp only [bufferAddr, dmemSize]; omega
    exact Memory.wf_write _ _ _ _ haddr (ih (by omega))

theorem read_storedBlock_outside (m : Memory) (buf : Byte) (f : Nat → Byte) (n a : Nat)
    (ha : ∀ k, k < n → a ≠ bufferAddr buf k) : (storedBlock m buf f n).read a = m.read a := by
  induction n with
  | zero => rfl
  | succ n ih =>
    rw [storedBlock, Memory.read_write_of_ne _ _ _ _ (ha n (by omega))]
    exact ih (fun k hk => ha k (by omega))

theorem read_storedBlock {m : Memory} {buf : Byte} (f : Nat → Byte) {n k : Nat} (hm : m.wf dmemSize = true)
    (hb : buf.toNat + n ≤ 256) (hk : k < n) : (storedBlock m buf f n).read (bufferAddr buf k) = f (k + 1) := by
  induction n with
  | zero => omega
  | succ n ih =>
    rw [storedBlock]
    by_cases hkn : k = n
    · subst hkn
      exact Memory.read_write_same dmemSize _ _ _ (storedBlock_wf f hm (by omega))
    · rw [Memory.read_write_of_ne _ _ _ _ (by simp only [bufferAddr]; omega)]
      exact ih (by omega) (by omega)

/-- The loop of RTC_BRD (R176); its last turn clears `DONE`. -/
theorem fastRun_blockRead {s : State} {buf : Byte} {n : Nat} {f : Nat → Byte} {rest : List Answer}
    (h : s.InTransaction .rtc) (hf : s.rxhold = f 0) (hb : buf.toNat + n ≤ 256)
    (hrx : s.rx = answersOf n (fun k => f (k + 1)) ++ rest) :
    ∃ u, fastRun ((List.range n).flatMap (blockReadByte s.cfg buf)) s = some u
      ∧ s.AfterBytes u f n (blockReadEvents s.cfg buf n f) ∧ (0 < n → u.done = false)
      ∧ u.dmem = storedBlock s.dmem buf f n := by
  refine fastRun_range (P := fun k u => s.AfterBytes u f k (blockReadEvents s.cfg buf k f) ∧ (0 < k → u.done = false)
    ∧ u.dmem = storedBlock s.dmem buf f k) n ⟨.refl h hf, by simp, rfl⟩ ?_
  rintro k u hk ⟨hafter, -, hmem⟩
  have haddr : bufferAddr buf k < dmemSize := by simp only [bufferAddr, dmemSize]; omega
  have hexch := hafter.exchanged s.cfg.dummyByte
  refine ⟨_, fastRun_append_of (a := xchg (.imm s.cfg.dummyByte)) (hafter.fastRun_xchg hk hrx _)
    (fastRun_takeRx_memWrite _ haddr), ?_, fun _ => rfl, ?_⟩
  · have hevents : blockReadEvents s.cfg buf (k + 1) f = blockReadEvents s.cfg buf k f
        ++ [.exch s.cfg.dummyByte (f (k + 1))] ++ [.memWrite (bufferAddr buf k) (f (k + 1))] := by
      simp [blockReadEvents, List.range_succ]
    rw [hevents]
    exact hexch.storedByte _
  · rw [storedBlock, ← hmem]
    rfl

/-! ### RTC_BWR and RTC_BRD (R175, R176) -/

/-- A granted block transfer whose tagged start address has been sent. -/
def State.addressed (tag inp : Byte) (s : State) : State :=
  ((s.grant s.serving).begun .rtc).exchanged .rtc tag inp s.rx.tail

/-- A block transfer whose loop comes `n` bytes far is done when its transaction is ended. -/
theorem exec_blockTransfer {s u : State} {i : Instr} {tag : Byte} {n : Nat} {f : Nat → Byte} {rest : List Answer}
    {loop : List Micro} {evs : List Event} (hi : i.usesBus = true ∧ i.wellFormed = true) (hready : s.readyFor i = true)
    (hrx : s.rx = answersOf (n + 1) f ++ rest)
    (hseq : microSeq s.cfg i = beginTx s.cfg .rtc ++ xchg (.imm tag) ++ loop ++ endTx s.cfg .rtc ++ [.respond false])
    (hcount : exchangeCount loop = n) (hrun : fastRun loop (s.addressed tag (f 0)) = some u)
    (hafter : (s.addressed tag (f 0)).AfterBytes u f n evs) :
    exec i s = .next ((u.ended .rtc).release s.serving 0)
      ∧ OperationDone s ((u.ended .rtc).release s.serving 0) 0 (rtcTxEvents s.cfg (.exch tag (f 0) :: evs))
      ∧ u.rx = rest := by
  have hbetween := State.betweenTransactions_of_ready hready
  have hfirst : s.rx = .byte (f 0) :: s.rx.tail := by rw [hrx, answersOf_succ]; rfl
  have htx := fastRun_append_of (fastRun_append_of (fastRun_append_of (fastRun_beginTx (s := s.grant s.serving) rfl .rtc)
    (fastRun_xchg (o := .imm tag) (hbetween.begun .rtc) (State.nextAnswer_of_byte hfirst))) hrun)
    (fastRun_endTx hafter.cfg .rtc)
  have hlen : (answersOf (n + 1) f).length = exchangeCount (microSeq s.cfg i) := by
    rw [hseq]
    simp only [exchangeCount_append, hcount]
    simp [answersOf, exchangeCount, beginTx, endTx, xchg, select, deselect, Nat.add_comm]
  have htrace : (u.ended .rtc).trace = s.trace ++ rtcTxEvents s.cfg (.exch tag (f 0) :: evs) := by
    simp [State.ended, hafter.trace, hafter.cfg, State.addressed, State.exchanged, State.begun, rtcTxEvents]
  exact exec_completes hi hready hrx hlen (by simp [answersOf]) hseq htx rfl htrace

/-- Settles O12: the loop's events and answers are those of `fastRun_blockWrite`, the rest of the transaction is
`exec_blockTransfer`, and the registers left alone are those of the frame (`rtcCommandsFrame`). -/
theorem rtcBwrCompletes : Obligations.RtcBwrCompletes := by
  intro s buf addr count f rest hready h1 h256 hrx
  have hbetween := State.betweenTransactions_of_ready hready
  have hrest : s.rx.tail = answersOf count.toNat (fun k => f (k + 1)) ++ rest := by rw [hrx, answersOf_succ]; rfl
  obtain ⟨u, hrun, hafter, hdone, hmem⟩ := fastRun_blockWrite (s := s.addressed (tagW s.cfg addr) (f 0))
    ((hbetween.begun .rtc).exchanged ..) rfl rfl h256 hrest
  obtain ⟨hexec, hend, hrx'⟩ := exec_blockTransfer (i := .rtcBwr buf addr count)
    ⟨rfl, by simp [Instr.wellFormed, Instr.operandsOk, blockInDmem, h1, h256]⟩ hready hrx rfl
    (exchangeCount_flatMap_range _ _ (fun _ => rfl)) hrun hafter
  obtain ⟨_, _, hrs, _, _, _, _, _, hblock, _⟩ := rtcCommandsFrame _ _ _ (.inr (.inr (.inl ⟨_, _, _, rfl⟩))) hexec
  obtain ⟨ht1, ht2, ht3, hres⟩ := hblock (.inl ⟨_, _, _, rfl⟩)
  exact ⟨_, hexec, hend, hdone, hafter.rxhold, hafter.spmode, hrx', hrs, fun a => congrArg (Memory.read · a) hmem,
    ht1, ht2, ht3, hres, hafter.sns, hafter.lcd⟩

/-- Settles O13: as RTC_BWR with the loop of `fastRun_blockRead`, after which DMEM is `storedBlock`. -/
theorem rtcBrdCompletes : Obligations.RtcBrdCompletes := by
  intro s buf addr count f rest hready h1 h256 hrx hwf
  have hbetween := State.betweenTransactions_of_ready hready
  have hrest : s.rx.tail = answersOf count.toNat (fun k => f (k + 1)) ++ rest := by rw [hrx, answersOf_succ]; rfl
  obtain ⟨u, hrun, hafter, hdone, hmem⟩ := fastRun_blockRead (s := s.addressed (tagR s.cfg addr) (f 0))
    ((hbetween.begun .rtc).exchanged ..) rfl h256 hrest
  obtain ⟨hexec, hend, hrx'⟩ := exec_blockTransfer (i := .rtcBrd buf addr count)
    ⟨rfl, by simp [Instr.wellFormed, Instr.operandsOk, blockInDmem, h1, h256]⟩ hready hrx rfl
    (exchangeCount_flatMap_range _ _ (fun _ => rfl)) hrun hafter
  obtain ⟨_, _, hrs, _, _, _, _, _, hblock, _⟩ := rtcCommandsFrame _ _ _ (.inr (.inr (.inr (.inl ⟨_, _, _, rfl⟩)))) hexec
  obtain ⟨ht1, ht2, ht3, hres⟩ := hblock (.inr ⟨_, _, _, rfl⟩)
  have hdmem : ((u.ended .rtc).release s.serving 0).dmem = storedBlock s.dmem buf f count.toNat := hmem
  refine ⟨_, hexec, hend, fun k hk => ?_, fun a ha => ?_, hdone h1, hafter.rxhold, hafter.spmode, hrx', hrs,
    ht1, ht2, ht3, hres, hafter.sns, hafter.lcd⟩
  · rw [hdmem]
    exact read_storedBlock f hwf h256 hk
  · rw [hdmem]
    exact read_storedBlock_outside s.dmem buf f _ a ha

/-! ### The reference environment (R90, R91; scenario S8) -/

theorem tag_getLsbD_seven (tag : Bool) (a : Byte) : (BitVec.ofBool tag ++ a.extractLsb' 0 7).getLsbD 7 = tag := by
  rw [BitVec.getLsbD_append]
  cases tag <;> rfl

theorem tagW_extractLsb' (c : Config) (a : Byte) : (tagW c a).extractLsb' 0 7 = a.extractLsb' 0 7 :=
  BitVec.extractLsb'_append_eq_right

theorem tagR_extractLsb' (c : Config) (a : Byte) : (tagR c a).extractLsb' 0 7 = a.extractLsb' 0 7 :=
  BitVec.extractLsb'_append_eq_right

/-- A write-tagged address opens a write at the register it names (R91). -/
theorem RtcRef.exchange_tagW {r : RtcRef} (h : r.phase = .addr) (c : Config) (a : Byte) :
    r.exchange c.rtcWriteTag (tagW c a) = (0x00, { r with ap := a.extractLsb' 0 7, phase := .writeData }) := by
  have htag : (tagW c a).getLsbD 7 = c.rtcWriteTag := tag_getLsbD_seven _ a
  simp only [RtcRef.exchange, h, htag, if_true, tagW_extractLsb']

/-- A read-tagged address opens a read there (R91). -/
theorem RtcRef.exchange_tagR {r : RtcRef} (h : r.phase = .addr) (c : Config) (a : Byte) :
    r.exchange c.rtcWriteTag (tagR c a) = (0x00, { r with ap := a.extractLsb' 0 7, phase := .readData }) := by
  have htag : (tagR c a).getLsbD 7 = !c.rtcWriteTag := tag_getLsbD_seven _ a
  have hne : (!c.rtcWriteTag) ≠ c.rtcWriteTag := by cases c.rtcWriteTag <;> decide
  simp only [RtcRef.exchange, h, htag, if_neg hne, tagR_extractLsb']

/-- RTC-ref sees its line go active: a transaction opens (R91). -/
theorem State.BetweenTransactions.begun_rtc {s : State} (h : s.BetweenTransactions) :
    (s.begun .rtc).periph.rtc = { s.periph.rtc with phase := .addr } := by
  have hsel : s.selected .rtc ≠ true := fun hs => by cases (h.selects .rtc).mp hs
  have hoff : s.cfg.csActive.rtc ≠ s.cs.rtc := fun he => hsel (by simp [State.selected, PerDev.get, he])
  simp [State.begun, Periph.onLine, RtcRef.onLine, PerDev.get, hoff]

theorem State.exchanged_rtc (out inp : Byte) (r : List Answer) (s : State) :
    (s.exchanged .rtc out inp r).periph.rtc = (s.periph.rtc.exchange s.cfg.rtcWriteTag out).2 := rfl

/-- RTC-ref answers where the list of answers says `reference` (R90). -/
theorem State.InTransaction.nextAnswer_reference {s : State} {r : List Answer} (h : s.InTransaction .rtc)
    (hrx : s.rx = .reference :: r) (out : Byte) :
    (s.startShift out).nextAnswer = some ((s.periph.rtc.exchange s.cfg.rtcWriteTag out).1, r) := by
  have hreply : (s.startShift out).referenceReply = s.periph.exchange s.cfg (some .rtc) s.rs out := by
    rw [← h.selectedDev]; rfl
  have hrx' : (s.startShift out).rx = .reference :: r := hrx
  simp only [State.nextAnswer, hrx', hreply]
  rfl

/-- A write transaction puts the value into the register, whatever bytes come back (R91). -/
theorem State.BetweenTransactions.wroteRegister_reg {s : State} (h : s.BetweenTransactions) (addr value i1 i2 : Byte)
    (r1 r2 : List Answer) :
    (s.wroteRegister addr value i1 i2 r1 r2).periph.rtc.reg
      = s.periph.rtc.reg.write (addr.extractLsb' 0 7).toNat value := by
  have haddr : ((s.begun .rtc).exchanged .rtc (tagW s.cfg addr) i1 r1).periph.rtc
      = { s.periph.rtc with ap := addr.extractLsb' 0 7, phase := .writeData } := by
    rw [State.exchanged_rtc, h.begun_rtc]
    exact congrArg Prod.snd (RtcRef.exchange_tagW rfl s.cfg addr)
  rw [State.wroteRegister, State.ended, Periph.onLine_reg, State.exchanged_rtc, haddr]
  rfl

/-- In a read transaction RTC-ref supplies the register with the second exchange (R91). -/
theorem State.BetweenTransactions.nextAnswer_read {s : State} (h : s.BetweenTransactions) (addr i1 out : Byte)
    (rest : List Answer) :
    (((s.begun .rtc).exchanged .rtc (tagR s.cfg addr) i1 (.reference :: rest)).startShift out).nextAnswer
      = some (s.periph.rtc.reg.read (addr.extractLsb' 0 7).toNat, rest) := by
  have haddr : ((s.begun .rtc).exchanged .rtc (tagR s.cfg addr) i1 (.reference :: rest)).periph.rtc
      = { s.periph.rtc with ap := addr.extractLsb' 0 7, phase := .readData } := by
    rw [State.exchanged_rtc, h.begun_rtc]
    exact congrArg Prod.snd (RtcRef.exchange_tagR rfl s.cfg addr)
  rw [((h.begun .rtc).exchanged ..).nextAnswer_reference rfl, haddr]
  rfl

/-- Answered by RTC-ref, RTC_WR writes the register its operand names. -/
theorem exec_rtcWr_reference {s : State} {addr value : Byte} {rest : List Answer}
    (hready : s.readyFor (.rtcWr addr value) = true) (hrx : s.rx = .reference :: .reference :: rest) :
    ∃ t evs, exec (.rtcWr addr value) s = .next t ∧ OperationDone s t 0 evs ∧ t.rx = rest
      ∧ t.periph.rtc.reg = s.periph.rtc.reg.write (addr.extractLsb' 0 7).toNat value := by
  have hbetween := State.betweenTransactions_of_ready hready
  have htx := hbetween.begun .rtc
  obtain ⟨t, hexec, rfl, hdone⟩ := exec_rtcWr hready hrx (by simp) (htx.nextAnswer_reference hrx _)
    ((htx.exchanged ..).nextAnswer_reference rfl value)
  exact ⟨_, _, hexec, hdone, rfl, hbetween.wroteRegister_reg ..⟩

/-- Answered by RTC-ref, RTC_RD answers the register its operand names. -/
theorem exec_rtcRd_reference {s : State} {addr : Byte} {rest : List Answer}
    (hready : s.readyFor (.rtcRd addr) = true) (hrx : s.rx = .reference :: .reference :: rest) :
    ∃ t evs, exec (.rtcRd addr) s = .next t
      ∧ OperationDone s t (byteData (s.periph.rtc.reg.read (addr.extractLsb' 0 7).toNat)) evs := by
  have hbetween := State.betweenTransactions_of_ready hready
  obtain ⟨t, hexec, -, hdone⟩ := exec_rtcRd hready hrx (by simp) ((hbetween.begun .rtc).nextAnswer_reference hrx _)
    (hbetween.nextAnswer_read ..)
  exact ⟨t, _, hexec, hdone⟩

/-! ### A port that is answered can issue the next command (R148) -/

theorem State.portCmd_setPort_same {s : State} {p : Port} (hp : p.val < s.ports.length) (c : Option Word) :
    (s.setPort p c).portCmd p = c := by
  simp [State.portCmd, hp]

theorem State.lt_length_of_portCmd {s : State} {p : Port} {w : Word} (h : s.portCmd p = some w) : p.val < s.ports.length := by
  refine Nat.lt_of_not_le (fun hge => ?_)
  have hnone : s.portCmd p = none := by simp only [State.portCmd, List.getElem?_eq_none hge]
  cases hnone.symm.trans h

/-- Whether another port competes depends on the other ports and the owner. -/
theorem State.rivalPending_of_others {s t : State} {p : Port} (hp : ∀ q, q ≠ p → t.portCmd q = s.portCmd q)
    (ho : t.owner = s.owner) : t.rivalPending p = s.rivalPending p := by
  unfold State.rivalPending
  congr 1
  funext q
  by_cases hq : q = p
  · simp [hq]
  · simp only [State.immediatePending, hp q hq, ho]

/-- After a ready operation the state is ready for the next command of its port. -/
theorem OperationDone.readyFor_next {s t : State} {d : Data} {evs : List Event} {i : Instr} (h : OperationDone s t d evs)
    (hs : s.readyFor i = true) (j : Instr) : (t.setPort t.serving (some (encode j))).readyFor j = true := by
  obtain ⟨hports, hown, hop, hupc, hbusy, hdly, hcs, -, hcfg, hserving, hinputs, -⟩ := h
  obtain ⟨hport, hfree, hin, hrival⟩ := (s.readyFor_iff i).mp hs
  obtain ⟨hfreeOwner, -, hoff, -⟩ := s.busFree_iff.mp hfree
  have hlt : t.serving.val < t.ports.length := by
    rw [hports, hserving, List.length_set]
    exact State.lt_length_of_portCmd hport
  have hothers : ∀ q, q ≠ s.serving → (t.setPort s.serving (some (encode j))).portCmd q = s.portCmd q := fun q hq => by
    rw [State.portCmd_setPort_of_ne _ _ _ _ hq, State.portCmd_congr (s.setPort s.serving none) t q hports,
      State.portCmd_setPort_of_ne _ _ _ _ hq]
  have hdeselected : (t.setPort t.serving (some (encode j))).allDeselected = true := by
    rw [State.allDeselected_iff] at hoff ⊢
    exact fun e => (State.selected_congr s _ e hcs hcfg).trans (hoff e)
  refine (State.readyFor_iff _ j).mpr ⟨State.portCmd_setPort_same hlt _, ?_, hinputs.trans hin, ?_⟩
  · exact (State.busFree_iff _).mpr ⟨hown, hbusy, hdeselected, hop, hupc, hdly⟩
  · rw [← hrival, ← hserving]
    exact State.rivalPending_of_others (hserving ▸ hothers) (hown.trans hfreeOwner.symm)

/-- Settles O60: the write leaves the value in RTC-ref's register (`exec_rtcWr_reference`), and the read answers that register
(`exec_rtcRd_reference`), the two operands naming the same. -/
theorem writeThenReadLoopsBack : Obligations.WriteThenReadLoopsBack := by
  intro s a b value rest hready hwf hab hrx
  obtain ⟨t, _, hwrite, hdone, hrest, hreg⟩ := exec_rtcWr_reference hready hrx
  obtain ⟨u, evs, hread, hdone'⟩ := exec_rtcRd_reference (hdone.readyFor_next hready (.rtcRd b)) hrest
  have hvalue : t.periph.rtc.reg.read (b.extractLsb' 0 7).toNat = value := by
    rw [hreg, extractLsb'_seven_congr hab]
    exact Memory.read_write_same 128 _ _ _ hwf
  obtain ⟨_, _, _, _, _, _, _, _, _, hserving, _⟩ := hdone
  obtain ⟨_, _, _, _, _, _, _, htrace, _⟩ := hdone'
  refine ⟨t, u, hwrite, hread, evs, ?_⟩
  rw [← hserving, ← hvalue]
  exact htrace

end Sys2Proof.Machine

/-! SUPPORT. The statements of 42_sensor.md: the reassembly of a sample (R194), and what SNS_CFG and SNS_RD do (R192, R193). A
byte of the sample is one update of the state (`State.sampledByte`), the first after the transaction's begin and the warm-up
behind it, each other behind a `Select` of its own (`State.nextSampledByte`, R191). -/

namespace Sys2Proof.Machine

/-! ### The reassembly (R194) -/

/-- The field of `byte1` that the humidity keeps is the masked byte. -/
theorem setWidth_extractLsb'_low_six (n : Nat) (b : Byte) : (b.extractLsb' 0 6).setWidth n = (b &&& 0x3F).setWidth n := by
  have hmask : b.toNat >>> 0 % 2 ^ 6 = b.toNat &&& (0x3F : Byte).toNat := (Nat.and_two_pow_sub_one_eq_mod _ 6).symm
  apply BitVec.eq_of_toNat_eq
  simpa only [BitVec.toNat_setWidth, BitVec.extractLsb'_toNat, BitVec.toNat_and] using congrArg (· % 2 ^ n) hmask

/-- The field of `byte4` that the temperature keeps is the shifted byte. -/
theorem setWidth_extractLsb'_high_six (n : Nat) (b : Byte) : (b.extractLsb' 2 6).setWidth n = (b >>> 2).setWidth n := by
  have hfits : b.toNat >>> 2 % 2 ^ 6 = b.toNat >>> 2 := Nat.mod_eq_of_lt (by omega)
  apply BitVec.eq_of_toNat_eq
  simpa using congrArg (· % 2 ^ n) hfits

/-- A field shifted past another does not overlap it. -/
theorem shiftLeft_and_setWidth {n w : Nat} (x : BitVec n) (y : BitVec w) : x <<< w &&& y.setWidth n = 0#n := by
  ext i hi
  by_cases h : i < w
  · simp [h]
  · have hy : y.getLsbD i = false := BitVec.getLsbD_of_ge y i (Nat.le_of_not_lt h)
    simp [hy]

theorem humidity_eq_or (b1 b2 : Byte) : humidity b1 b2 = (((b1 &&& 0x3F).setWidth 14 <<< 8) ||| b2.setWidth 14) := by
  have h := setWidth_append_eq_or 14 (b1.extractLsb' 0 6) b2
  rwa [BitVec.setWidth_eq, setWidth_extractLsb'_low_six] at h

theorem temperature_eq_or (b3 b4 : Byte) : temperature b3 b4 = ((b3.setWidth 14 <<< 6) ||| (b4 >>> 2).setWidth 14) := by
  have h := setWidth_append_eq_or 14 b3 (b4.extractLsb' 2 6)
  rwa [BitVec.setWidth_eq, setWidth_extractLsb'_high_six] at h

/-- Settles O8: each value is the concatenation of two fields, whose parts are the masked and the shifted byte
(`humidity_eq_or`, `temperature_eq_or`) and do not overlap (`shiftLeft_and_setWidth`). -/
theorem sampleIsReassembled : Obligations.SampleIsReassembled := by
  refine ⟨fun b1 b2 b3 b4 => ⟨humidity_eq_or b1 b2, temperature_eq_or b3 b4, shiftLeft_and_setWidth _ b2, ?_,
    Nat.le_of_lt_succ (humidity b1 b2).isLt, Nat.le_of_lt_succ (temperature b3 b4).isLt, BitVec.extractLsb'_append_eq_left,
    BitVec.extractLsb'_append_eq_right⟩, by decide, by decide, by decide⟩
  rw [← setWidth_extractLsb'_high_six]
  exact shiftLeft_and_setWidth _ _

/-! ### SNS_CFG (R192) -/

/-- Settles O15: the sequence of R192 loads the mode and drains, and starts no exchange. -/
theorem snsCfgCompletes : Obligations.SnsCfgCompletes := by
  intro s hready
  have hrun : fastRun [.cfg .sns, .drain] (s.grant s.serving)
      = some ((s.grant s.serving).loadMode .sns).advance.clearDone.advance := rfl
  obtain ⟨hexec, hdone, -⟩ := exec_completes (i := .snsCfg) (ans := []) (withRes := false) ⟨rfl, rfl⟩ hready rfl rfl
    List.not_mem_nil rfl hrun rfl rfl
  refine ⟨_, hexec, hdone, ?_⟩
  simp [loadedMode, SameDmem, SameTemps]

/-! ### SNS_RD (R193) -/

/-- `x[i] <- XchgTake(DUMMY_BYTE)` with the sensor, answered with `b` (R193). -/
def State.sampledByte (i : Temp) (b : Byte) (r : List Answer) (s : State) : State :=
  (s.exchanged .sns s.cfg.dummyByte b r).taken i

/-- The warm-up delay (R191). -/
def State.warmedUp (s : State) : State := (State.emit (.delay .snsWarmup) { s with dly := 0 }).advance

/-- A byte after the first: the line is driven to the level it has, and the exchange follows (R191). -/
def State.nextSampledByte (i : Temp) (b : Byte) (r : List Answer) (s : State) : State :=
  (s.driveLine (.cs .sns) (s.cfg.csActive.get .sns)).advance.sampledByte i b r

/-- The sensor's transaction of four bytes, `rest` being the answers left after them. -/
def State.sampled (b1 b2 b3 b4 : Byte) (rest : List Answer) (s : State) : State :=
  (((((s.begun .sns).sampledByte .t0 b1 (.byte b2 :: .byte b3 :: .byte b4 :: rest)).warmedUp.nextSampledByte .t1 b2
    (.byte b3 :: .byte b4 :: rest)).nextSampledByte .t2 b3 (.byte b4 :: rest)).nextSampledByte .t3 b4 rest).ended .sns

section
variable (i : Temp) (b : Byte) (r : List Answer) (s : State)

@[simp] theorem State.begun_cfg (d : Dev) : (s.begun d).cfg = s.cfg := rfl
@[simp] theorem State.warmedUp_cfg : s.warmedUp.cfg = s.cfg := rfl
@[simp] theorem State.warmedUp_rx : s.warmedUp.rx = s.rx := rfl

@[simp] theorem State.sampledByte_cfg : (s.sampledByte i b r).cfg = s.cfg := State.taken_cfg ..
@[simp] theorem State.sampledByte_rx : (s.sampledByte i b r).rx = r := by simp [State.sampledByte, State.taken, State.exchanged]

@[simp] theorem State.nextSampledByte_cfg : (s.nextSampledByte i b r).cfg = s.cfg := State.sampledByte_cfg ..
@[simp] theorem State.nextSampledByte_rx : (s.nextSampledByte i b r).rx = r := State.sampledByte_rx ..
end

theorem State.InTransaction.warmedUp {s : State} {d : Dev} (h : s.InTransaction d) : s.warmedUp.InTransaction d :=
  ⟨h.owned, h.idle, h.mode, h.selects.congr rfl rfl⟩

/-- Selecting the selected device again leaves it selected (R191). -/
theorem State.InTransaction.reselected {s : State} {d : Dev} (h : s.InTransaction d) :
    (s.driveLine (.cs d) (s.cfg.csActive.get d)).advance.InTransaction d :=
  ⟨by simpa using h.owned, by simpa using h.idle, by simpa using h.mode, (h.selects.select d (.inr rfl)).congr rfl rfl⟩

/-- A listed byte answers the exchange of one byte of the sample. -/
theorem fastRun_sampledByte {c : Config} {s : State} {b : Byte} {r : List Answer} (i : Temp) (hc : s.cfg = c)
    (h : s.InTransaction .sns) (hrx : s.rx = .byte b :: r) :
    fastRun (xchgTake (.imm c.dummyByte) i) s = some (s.sampledByte i b r) ∧ (s.sampledByte i b r).InTransaction .sns := by
  subst hc
  exact ⟨fastRun_xchgTake (o := .imm s.cfg.dummyByte) h (State.nextAnswer_of_byte hrx) i, (h.exchanged ..).taken i⟩

theorem fastRun_nextSampledByte {c : Config} {s : State} {b : Byte} {r : List Answer} (i : Temp) (hc : s.cfg = c)
    (h : s.InTransaction .sns) (hrx : s.rx = .byte b :: r) :
    fastRun (select c .sns :: xchgTake (.imm c.dummyByte) i) s = some (s.nextSampledByte i b r)
      ∧ (s.nextSampledByte i b r).InTransaction .sns := by
  subst hc
  exact fastRun_sampledByte (c := s.cfg) i rfl h.reselected (by simpa using hrx)

/-- The micro-operations of R193 up to its result: the first byte with the warm-up delay after it, then three more, each behind
its `Select`. -/
theorem fastRun_snsRd {s : State} {b1 b2 b3 b4 : Byte} {rest : List Answer} (h : s.BetweenTransactions)
    (hrx : s.rx = .byte b1 :: .byte b2 :: .byte b3 :: .byte b4 :: rest) :
    fastRun (beginTx s.cfg .sns ++ xchgTake (.imm s.cfg.dummyByte) .t0 ++ [.delay .snsWarmup]
        ++ select s.cfg .sns :: xchgTake (.imm s.cfg.dummyByte) .t1
        ++ select s.cfg .sns :: xchgTake (.imm s.cfg.dummyByte) .t2
        ++ select s.cfg .sns :: xchgTake (.imm s.cfg.dummyByte) .t3 ++ endTx s.cfg .sns) s
      = some (s.sampled b1 b2 b3 b4 rest) := by
  obtain ⟨hfirst, htx1⟩ := fastRun_sampledByte (c := s.cfg) (s := s.begun .sns) .t0 rfl (h.begun .sns) hrx
  obtain ⟨hsecond, htx2⟩ := fastRun_nextSampledByte (c := s.cfg) .t1 (by simp) htx1.warmedUp
    ((State.warmedUp_rx _).trans (State.sampledByte_rx ..))
  obtain ⟨hthird, htx3⟩ := fastRun_nextSampledByte (c := s.cfg) .t2 (by simp) htx2 (State.nextSampledByte_rx ..)
  obtain ⟨hfourth, _⟩ := fastRun_nextSampledByte (c := s.cfg) .t3 (by simp) htx3 (State.nextSampledByte_rx ..)
  have hwarm := fastRun_append_of (fastRun_append_of (fastRun_beginTx rfl .sns) hfirst) (b := [.delay .snsWarmup]) rfl
  have hbytes := fastRun_append_of (fastRun_append_of (fastRun_append_of hwarm hsecond) hthird) hfourth
  exact fastRun_append_of hbytes (fastRun_endTx (by simp) .sns)

section
variable (b1 b2 b3 b4 : Byte) (rest : List Answer) (s : State)

@[simp] theorem State.sampled_trace :
    (s.sampled b1 b2 b3 b4 rest).trace = s.trace ++ sampleEvents s.cfg b1 b2 b3 b4 := by
  simp [State.sampled, State.nextSampledByte, State.sampledByte, State.warmedUp, State.begun, State.exchanged, State.taken,
    State.ended, lineEvent, sampleEvents, beginEvents, PerDev.get]

/-- The bytes are in the temporaries in the order in which they came. -/
@[simp] theorem State.sampled_temps :
    (s.sampled b1 b2 b3 b4 rest).t0 = b1 ∧ (s.sampled b1 b2 b3 b4 rest).t1 = b2 ∧ (s.sampled b1 b2 b3 b4 rest).t2 = b3
      ∧ (s.sampled b1 b2 b3 b4 rest).t3 = b4 := by
  simp [State.sampled, State.nextSampledByte, State.sampledByte, State.warmedUp, State.exchanged, State.taken, State.setTemp,
    State.ended]

/-- The last byte is taken; the mode is the one loaded at the begin. -/
@[simp] theorem State.sampled_bus :
    (s.sampled b1 b2 b3 b4 rest).done = false ∧ (s.sampled b1 b2 b3 b4 rest).rxhold = b4
      ∧ (s.sampled b1 b2 b3 b4 rest).rx = rest ∧ (s.sampled b1 b2 b3 b4 rest).spmode = loadedMode s.cfg .sns := by
  simp [State.sampled, State.nextSampledByte, State.sampledByte, State.warmedUp, State.begun, State.exchanged, State.taken,
    State.ended]

/-- Reading a sample is the sensor's affair alone. -/
@[simp] theorem State.sampled_frame :
    (s.sampled b1 b2 b3 b4 rest).rs = s.rs ∧ (s.sampled b1 b2 b3 b4 rest).dmem = s.dmem
      ∧ (s.sampled b1 b2 b3 b4 rest).periph.rtc = s.periph.rtc ∧ (s.sampled b1 b2 b3 b4 rest).periph.lcd = s.periph.lcd := by
  simp [State.sampled, State.nextSampledByte, State.sampledByte, State.warmedUp, State.begun, State.exchanged, State.taken,
    State.ended, Periph.onLine, Periph.exchange]
end

/-- Settles O16: the state SNS_RD leaves is `State.sampled`'s, with the reassembled values in `RES`. -/
theorem snsRdCompletes : Obligations.SnsRdCompletes := by
  intro s b1 b2 b3 b4 rest hready hrx
  have hbetween := State.betweenTransactions_of_ready hready
  have hrun := fastRun_append_of (fastRun_snsRd hbetween hrx) (b := [.setRes .sample]) rfl
  obtain ⟨hexec, hdone, -⟩ := exec_completes (i := .snsRd) (ans := [.byte b1, .byte b2, .byte b3, .byte b4]) (withRes := true)
    (d := sampleData b1 b2 b3 b4) (evs := sampleEvents s.cfg b1 b2 b3 b4)
    ⟨rfl, rfl⟩ hready hrx rfl (by simp) rfl hrun (by simp [State.result]) (by simp)
  refine ⟨_, hexec, hdone, ?_⟩
  simp [SameDmem]

end Sys2Proof.Machine

/-! SUPPORT. The statements of 43_lcd.md: what each LCD command does (R203 to R206). The transaction of one LCD byte (R200) is
one update of the state (`State.sentLcdByte`), to which its ten micro-operations run (`fastRun_lcdByte`). LCD_CMD and LCD_DAT
are one such update; the loops of LCD_INIT and LCD_DRAW keep `State.AfterSends`. -/

namespace Sys2Proof.Machine

/-! ### The transaction of one byte (R200) -/

/-- What the first four micro-operations of an LCD byte do: the brackets' begin, with `RS` at `level` before the select. -/
def State.begunLcd (level : Bool) (s : State) : State :=
  { s with
    spmode := loadedMode s.cfg .lcd
    rs     := level
    cs     := s.cs.set .lcd (s.cfg.csActive.get .lcd)
    dly    := 0
    upc    := s.upc + 4
    trace  := s.trace ++ [.modeLoad .lcd, .rs level, .cs .lcd s.cfg.csActive.lcd, .delay (.setup .lcd)] }

/-- What the transaction of the byte `out` does, the environment answering `inp` with `r` left. -/
def State.sentLcdByte (level drainBefore : Bool) (out inp : Byte) (r : List Answer) (s : State) : State :=
  { s with
    spmode := loadedMode s.cfg .lcd
    rs     := level
    cs     := s.cs.set .lcd (!s.cfg.csActive.get .lcd)
    txbyte := out
    busy   := false
    done   := drainBefore
    rxhold := inp
    rx     := r
    periph := (s.periph.exchange s.cfg (some .lcd) level out).2
    dly    := 0
    upc    := s.upc + 10
    trace  := s.trace ++ lcdByteEvents s.cfg level out inp }

/-- What the exchange of `out` with its drain does; `DONE` stays set where the drain came first (R202). -/
def State.drainedXchg (drainBefore : Bool) (out inp : Byte) (r : List Answer) (s : State) : State :=
  { s.exchanged .lcd out inp r with
    done := drainBefore
    upc  := s.upc + 3 }

theorem State.BetweenTransactions.begunLcd {s : State} (h : s.BetweenTransactions) (level : Bool) :
    (s.begunLcd level).InTransaction .lcd :=
  ⟨h.owned, h.idle, rfl, (h.begun .lcd).selects.congr rfl rfl⟩

theorem State.InTransaction.drained {s : State} {d : Dev} (h : s.InTransaction d) : s.clearDone.advance.InTransaction d :=
  ⟨h.owned, h.idle, h.mode, h.selects.congr rfl rfl⟩

theorem State.BetweenTransactions.sentLcdByte {s : State} (h : s.BetweenTransactions) (level drainBefore : Bool)
    (out inp : Byte) (r : List Answer) : (s.sentLcdByte level drainBefore out inp r).BetweenTransactions :=
  ⟨h.owned, rfl, (h.begun .lcd).ended.selects.congr rfl rfl⟩

theorem fastRun_lcdBegin {c : Config} {s : State} (hc : s.cfg = c) (level : Bool) :
    fastRun [.cfg .lcd, .line .rs level, select c .lcd, .delay (.setup .lcd)] s = some (s.begunLcd level) := by
  subst hc
  simp [select, fastRun, fastMicro, State.begunLcd, State.loadMode, State.driveLine, State.emit, State.advance,
    Periph.onLine, lineEvent, loadedMode, PerDev.get, BitVec.add_assoc]

/-- What a `Shift` sends depends on the temporaries. -/
theorem State.source_congr {s t : State} (h : ∀ i, t.temp i = s.temp i) (o : Source) : t.source o = s.source o := by
  cases o with
  | imm b => rfl
  | temp i => exact h i

/-- The drain and the exchange, in the order that the parameter asks for (R201, R202). -/
theorem fastRun_drainedXchg {s : State} {o : Source} {inp : Byte} {r : List Answer} (h : s.InTransaction .lcd)
    (hrx : s.rx = .byte inp :: r) (drainBefore : Bool) :
    fastRun (if drainBefore then .drain :: xchg o else xchg o ++ [.drain]) s
      = some (s.drainedXchg drainBefore (s.source o) inp r) := by
  cases drainBefore with
  | true =>
    have hsource : s.clearDone.advance.source o = s.source o := State.source_congr (fun i => by cases i <;> rfl) o
    have hrun := fastRun_append_of (a := [.drain]) rfl (fastRun_xchg (o := o) h.drained (State.nextAnswer_of_byte hrx))
    rw [hsource] at hrun
    refine hrun.trans ?_
    simp [State.exchanged, State.drainedXchg, State.clearDone, State.advance, BitVec.add_assoc]
  | false =>
    have hrun := fastRun_append_of (b := [.drain]) (fastRun_xchg (o := o) h (State.nextAnswer_of_byte hrx)) rfl
    refine hrun.trans ?_
    simp [State.exchanged, State.drainedXchg, State.clearDone, State.advance, BitVec.add_assoc]

/-- The ten micro-operations of an LCD byte are one update of the state. -/
theorem fastRun_lcdByte {c : Config} {s : State} {inp : Byte} {r : List Answer} (hc : s.cfg = c) (h : s.BetweenTransactions)
    (hrx : s.rx = .byte inp :: r) (level drainBefore : Bool) (o : Source) :
    fastRun (lcdByte c level o drainBefore) s = some (s.sentLcdByte level drainBefore (s.source o) inp r) := by
  subst hc
  have hsource : (s.begunLcd level).source o = s.source o := State.source_congr (fun i => by cases i <;> rfl) o
  have hxchg := fastRun_drainedXchg (o := o) (h.begunLcd level) hrx drainBefore
  rw [hsource] at hxchg
  refine (fastRun_append_of (fastRun_append_of (fastRun_lcdBegin rfl level) hxchg) (fastRun_endTx rfl .lcd)).trans ?_
  simp [State.ended, State.drainedXchg, State.exchanged, State.begunLcd, State.sentLcdByte, lcdByteEvents, Periph.onLine,
    PerDev.set, BitVec.add_assoc]

/-! ### LCD_CMD and LCD_DAT (R203, R204) -/

theorem exchangeCount_lcdByte (c : Config) (level drainBefore : Bool) (o : Source) :
    exchangeCount (lcdByte c level o drainBefore) = 1 := by
  cases drainBefore <;> rfl

/-- A command that is one LCD byte leaves the state of `State.sentLcdByte`, released. -/
theorem exec_sentLcdByte {s : State} {i : Instr} {level drainBefore : Bool} {byte inp : Byte} {rest : List Answer}
    (hi : i.usesBus = true ∧ i.wellFormed = true) (hready : s.readyFor i = true) (hrx : s.rx = .byte inp :: rest)
    (hseq : microSeq s.cfg i = lcdByte s.cfg level (.imm byte) drainBefore ++ [.respond false]) :
    ∃ t, exec i s = .next t ∧ t = ((s.grant s.serving).sentLcdByte level drainBefore byte inp rest).release s.serving 0
      ∧ OperationDone s t 0 (lcdByteEvents s.cfg level byte inp) := by
  have hrun := fastRun_lcdByte (s := s.grant s.serving) rfl (State.betweenTransactions_of_ready hready) hrx level drainBefore
    (.imm byte)
  have hlen : [Answer.byte inp].length = exchangeCount (microSeq s.cfg i) := by
    rw [hseq, exchangeCount_append, exchangeCount_lcdByte]
    rfl
  obtain ⟨hexec, hdone, -⟩ := exec_completes (ans := [.byte inp]) (withRes := false) hi hready hrx hlen (by simp) hseq hrun
    rfl rfl
  exact ⟨_, hexec, rfl, hdone⟩

/-- Settles O17: the state LCD_CMD leaves is `State.sentLcdByte`'s at the command level. -/
theorem lcdCmdCompletes : Obligations.LcdCmdCompletes := by
  intro s byte inp rest hready hrx
  obtain ⟨_, hexec, rfl, hdone⟩ := exec_sentLcdByte (i := .lcdCmd byte) ⟨rfl, rfl⟩ hready hrx rfl
  refine ⟨_, hexec, hdone, ?_⟩
  simp [State.sentLcdByte, Periph.exchange, SameDmem, SameTemps]

/-- Settles O18: the state LCD_DAT leaves is `State.sentLcdByte`'s at the data level. -/
theorem lcdDatCompletes : Obligations.LcdDatCompletes := by
  intro s byte inp rest hready hrx
  obtain ⟨_, hexec, rfl, hdone⟩ := exec_sentLcdByte (i := .lcdDat byte) ⟨rfl, rfl⟩ hready hrx rfl
  refine ⟨_, hexec, hdone, ?_⟩
  simp [State.sentLcdByte, Periph.exchange, SameDmem, SameTemps]

/-! ### A sequence of LCD bytes (R205, R206) -/

/-- `u` is `k` answered LCD bytes after `s`, between two of their transactions; the events are `evs`. -/
structure State.AfterSends (s u : State) (k : Nat) (evs : List Event) : Prop where
  between : u.BetweenTransactions
  cfg     : u.cfg = s.cfg
  dmem    : u.dmem = s.dmem
  rx      : u.rx = s.rx.drop k
  rtc     : u.periph.rtc = s.periph.rtc
  sns     : u.periph.sns = s.periph.sns
  trace   : u.trace = s.trace ++ evs

/-- What shows of the last LCD byte after its transaction: its level, whether `DONE` is set, and the byte received. -/
structure State.LastSent (u : State) (level done : Bool) (inp : Byte) : Prop where
  spmode : u.spmode = loadedMode u.cfg .lcd
  rs     : u.rs = level
  done   : u.done = done
  rxhold : u.rxhold = inp

section
variable {s u : State} {k total : Nat} {f : Nat → Byte} {rest : List Answer} {evs : List Event}

theorem State.AfterSends.refl (h : s.BetweenTransactions) : s.AfterSends s 0 [] :=
  ⟨h, rfl, rfl, rfl, rfl, rfl, (List.append_nil _).symm⟩

theorem State.AfterSends.sentLcdByte (h : s.AfterSends u k evs) (level drainBefore : Bool) (out inp : Byte) :
    s.AfterSends (u.sentLcdByte level drainBefore out inp (s.rx.drop (k + 1))) (k + 1)
      (evs ++ lcdByteEvents s.cfg level out inp) :=
  ⟨h.between.sentLcdByte .., h.cfg, h.dmem, rfl, h.rtc, h.sns, by simp [State.sentLcdByte, h.trace, h.cfg]⟩

theorem State.AfterSends.loadedByte (h : s.AfterSends u k evs) (a : Nat) :
    s.AfterSends (u.loadedByte a) k (evs ++ [.memRead a (s.dmem.read a)]) := by
  obtain ⟨⟨hown, hidle, hsel⟩, hcfg, hdmem, hrx, hrtc, hsns, htrace⟩ := h
  exact ⟨⟨hown, hidle, hsel.congr rfl rfl⟩, hcfg, hdmem, hrx, hrtc, hsns, by simp [State.loadedByte, htrace, hdmem]⟩

/-- The next byte of the sequence. -/
theorem State.AfterSends.fastRun_lcdByte (h : s.AfterSends u k evs) (hk : k < total)
    (hrx : s.rx = answersOf total f ++ rest) (level drainBefore : Bool) (o : Source) :
    ∃ v, fastRun (lcdByte s.cfg level o drainBefore) u = some v
      ∧ s.AfterSends v (k + 1) (evs ++ lcdByteEvents s.cfg level (u.source o) (f k)) ∧ v.LastSent level drainBefore (f k) := by
  have hnext : u.rx = .byte (f k) :: s.rx.drop (k + 1) := by rw [h.rx, hrx, drop_answersOf hk]
  exact ⟨_, Machine.fastRun_lcdByte h.cfg h.between hnext level drainBefore o, h.sentLcdByte .., ⟨rfl, rfl, rfl, rfl⟩⟩

/-- A loop of one byte a turn: the last turn is the one that shows. -/
theorem State.AfterSends.fastRun_range {level done : Bool} {body : Nat → List Micro} {turnEvents : Nat → List Event}
    (h : s.AfterSends u k evs) (n : Nat)
    (hturn : ∀ j v evs, j < n + 1 → s.AfterSends v (k + j) evs → ∃ w, fastRun (body j) v = some w
      ∧ s.AfterSends w (k + j + 1) (evs ++ turnEvents j) ∧ w.LastSent level done (f (k + j))) :
    ∃ v, fastRun ((List.range (n + 1)).flatMap body) u = some v
      ∧ s.AfterSends v (k + n + 1) (evs ++ (List.range (n + 1)).flatMap turnEvents)
      ∧ v.LastSent level done (f (k + n)) := by
  obtain ⟨v, hrun, hafter, hlast⟩ := Machine.fastRun_range (s := u) (body := body) (P := fun j v =>
    s.AfterSends v (k + j) (evs ++ (List.range j).flatMap turnEvents) ∧ (0 < j → v.LastSent level done (f (k + j - 1))))
    (n + 1) ⟨by simpa using h, by simp⟩ (fun j v hj ⟨hv, _⟩ => by
      obtain ⟨w, hw, hafter, hlast⟩ := hturn j v _ hj hv
      exact ⟨w, hw, by simpa [List.range_succ, Nat.add_assoc] using hafter, fun _ => hlast⟩)
  exact ⟨v, hrun, hafter, hlast (Nat.succ_pos n)⟩

/-- A character of a line, read from DMEM just before it is sent (R206). -/
theorem State.AfterSends.fastRun_character {a : Nat} (h : s.AfterSends u k evs) (hk : k < total)
    (hrx : s.rx = answersOf total f ++ rest) (ha : a < dmemSize) :
    ∃ v, fastRun (.memRead a .t0 :: lcdDataByte s.cfg (.temp .t0)) u = some v
      ∧ s.AfterSends v (k + 1)
          (evs ++ .memRead a (s.dmem.read a) :: lcdByteEvents s.cfg s.cfg.rsData (s.dmem.read a) (f k))
      ∧ v.LastSent s.cfg.rsData (!s.cfg.lcdDrainCmdBefore) (f k) := by
  obtain ⟨v, hrun, hafter, hlast⟩ :=
    (h.loadedByte a).fastRun_lcdByte hk hrx s.cfg.rsData (!s.cfg.lcdDrainCmdBefore) (.temp .t0)
  have hbyte : (u.loadedByte a).source (.temp .t0) = s.dmem.read a := congrArg (Memory.read · a) h.dmem
  refine ⟨v, fastRun_append_of (a := [.memRead a .t0]) (fastRun_memRead u ha) hrun, ?_, hlast⟩
  simpa [hbyte] using hafter

/-- A line: its base-address command and its sixteen characters (R206). -/
theorem State.AfterSends.fastRun_drawLine (h : s.AfterSends u k evs) (hk : k + 17 ≤ total)
    (hrx : s.rx = answersOf total f ++ rest) (base : Byte) {buf : Byte} (hbuf : buf.toNat ≤ 240) :
    ∃ v, fastRun (drawLine s.cfg (base, buf)) u = some v
      ∧ s.AfterSends v (k + 17) (evs ++ lineEvents s.cfg s.dmem base buf k f)
      ∧ v.LastSent s.cfg.rsData (!s.cfg.lcdDrainCmdBefore) (f (k + 16)) := by
  obtain ⟨v, hcommand, hv, -⟩ := h.fastRun_lcdByte (by omega) hrx s.cfg.rsCmd s.cfg.lcdDrainCmdBefore (.imm base)
  obtain ⟨w, hcharacters, hw, hlast⟩ := hv.fastRun_range (f := f) 15 (fun j v evs hj hv => by
    have haddr : bufferAddr buf j < dmemSize := by simp only [bufferAddr, dmemSize]; omega
    exact hv.fastRun_character (by omega) hrx haddr)
  refine ⟨w, fastRun_append_of hcommand hcharacters, ?_, hlast⟩
  simpa [lineEvents, State.source, Nat.add_right_comm] using hw

end

/-- A sequence of LCD bytes is done when the last is sent. -/
theorem exec_sends {s u : State} {i : Instr} {total : Nat} {f : Nat → Byte} {rest : List Answer} {body : List Micro}
    {evs : List Event} (hi : i.usesBus = true ∧ i.wellFormed = true) (hready : s.readyFor i = true)
    (hrx : s.rx = answersOf total f ++ rest) (hseq : microSeq s.cfg i = body ++ [.respond false])
    (hcount : exchangeCount body = total) (hrun : fastRun body (s.grant s.serving) = some u)
    (hafter : (s.grant s.serving).AfterSends u total evs) :
    exec i s = .next (u.release s.serving 0) ∧ OperationDone s (u.release s.serving 0) 0 evs ∧ u.rx = rest := by
  have hlen : (answersOf total f).length = exchangeCount (microSeq s.cfg i) := by
    rw [hseq, exchangeCount_append, hcount]
    simp [answersOf, exchangeCount]
  exact exec_completes hi hready hrx hlen (by simp [answersOf]) hseq hrun rfl hafter.trace

/-! ### LCD_INIT and LCD_DRAW (R205, R206) -/

theorem exchangeCount_drawLine (c : Config) (line : Byte × Byte) : exchangeCount (drawLine c line) = 17 := by
  have hcharacter : ∀ k, exchangeCount (.memRead (bufferAddr line.2 k) .t0 :: lcdDataByte c (.temp .t0)) = 1 :=
    fun _ => exchangeCount_lcdByte c c.rsData (!c.lcdDrainCmdBefore) (.temp .t0)
  rw [drawLine, lcdCommandByte, exchangeCount_append, exchangeCount_lcdByte, exchangeCount_flatMap_range _ _ hcharacter]

/-- The power-up delay (R205). -/
def State.poweredUp (s : State) : State := (State.emit (.delay .lcdPowerup) { s with dly := 0 }).advance

theorem State.AfterSends.poweredUp {s : State} (h : s.BetweenTransactions) :
    s.AfterSends s.poweredUp 0 [.delay .lcdPowerup] :=
  ⟨⟨h.owned, h.idle, h.selects.congr rfl rfl⟩, rfl, rfl, rfl, rfl, rfl, rfl⟩

/-- The nine commands by their index. -/
theorem lcdInitSeq_eq_range (c : Config) :
    lcdInitSeq c = [.delay .lcdPowerup]
      ++ (List.range 9).flatMap (fun k => lcdCommandByte c (.imm (c.lcdInitSeq.toList.getD k 0))) ++ [.respond false] := rfl

theorem initEvents_eq_range (c : Config) (f : Nat → Byte) :
    initEvents c f = [.delay .lcdPowerup]
      ++ (List.range 9).flatMap (fun k => lcdByteEvents c c.rsCmd (c.lcdInitSeq.toList.getD k 0) (f k)) := rfl

/-- Settles O19: after the power-up delay, the loop of nine command bytes (`State.AfterSends.fastRun_range`). -/
theorem lcdInitCompletes : Obligations.LcdInitCompletes := by
  intro s f rest hready hrx
  have hstart := State.AfterSends.poweredUp (State.betweenTransactions_of_ready hready)
  obtain ⟨u, hbytes, hafter, hlast⟩ := hstart.fastRun_range (f := f) (level := s.cfg.rsCmd) (done := s.cfg.lcdDrainCmdBefore)
    (body := fun k => lcdCommandByte s.cfg (.imm (s.cfg.lcdInitSeq.toList.getD k 0)))
    (turnEvents := fun k => lcdByteEvents s.cfg s.cfg.rsCmd (s.cfg.lcdInitSeq.toList.getD k 0) (f k)) 8
    (fun j v evs hj hv => by
      rw [Nat.zero_add] at hv ⊢
      exact hv.fastRun_lcdByte hj hrx s.cfg.rsCmd s.cfg.lcdDrainCmdBefore _)
  have hrun := fastRun_append_of (a := [.delay .lcdPowerup]) rfl hbytes
  obtain ⟨hexec, hdone, hrest⟩ := exec_sends ⟨rfl, rfl⟩ hready hrx (lcdInitSeq_eq_range s.cfg)
    (exchangeCount_flatMap_range 9 _ (fun _ => exchangeCount_lcdByte ..)) hrun hafter
  rw [← initEvents_eq_range] at hdone
  obtain ⟨_, _, hres, ht1, ht2, ht3, ht0⟩ := lcdCommandsFrame _ _ _ (.inr (.inr (.inl rfl))) hexec
  exact ⟨_, hexec, hdone, hlast.rs, hlast.done, hlast.rxhold, hafter.cfg ▸ hlast.spmode, hrest,
    fun a => congrArg (Memory.read · a) hafter.dmem, ⟨ht0 (by simp), ht1, ht2, ht3⟩, hres, hafter.rtc, hafter.sns⟩

/-- Settles O20: three lines (`State.AfterSends.fastRun_drawLine`), which only read DMEM. -/
theorem lcdDrawCompletes : Obligations.LcdDrawCompletes := by
  intro s buf1 buf2 buf3 f rest hready h1 h2 h3 hrx
  have hstart := State.AfterSends.refl (State.betweenTransactions_of_ready hready)
  obtain ⟨u1, hline1, hafter1, -⟩ := hstart.fastRun_drawLine (by omega) hrx s.cfg.lcdLineBase.line1 h1
  obtain ⟨u2, hline2, hafter2, -⟩ := hafter1.fastRun_drawLine (by omega) hrx s.cfg.lcdLineBase.line2 h2
  obtain ⟨u3, hline3, hafter3, hlast⟩ := hafter2.fastRun_drawLine (by omega) hrx s.cfg.lcdLineBase.line3 h3
  have hrun := fastRun_append_of (fastRun_append_of hline1 hline2) hline3
  have hseq : microSeq s.cfg (.lcdDraw buf1 buf2 buf3) = drawLine s.cfg (s.cfg.lcdLineBase.line1, buf1)
      ++ drawLine s.cfg (s.cfg.lcdLineBase.line2, buf2) ++ drawLine s.cfg (s.cfg.lcdLineBase.line3, buf3)
      ++ [.respond false] := by
    simp [microSeq, lcdDrawSeq, drawLines]
  obtain ⟨hexec, hdone, hrest⟩ := exec_sends (evs := drawEvents s.cfg s.dmem buf1 buf2 buf3 f)
    ⟨rfl, by simp [Instr.wellFormed, Instr.operandsOk, lineInDmem, h1, h2, h3]⟩ hready hrx hseq
    (by simp only [exchangeCount_append, exchangeCount_drawLine]) hrun hafter3
  obtain ⟨_, _, hres, ht1, ht2, ht3, _⟩ := lcdCommandsFrame _ _ _ (.inr (.inr (.inr ⟨_, _, _, rfl⟩))) hexec
  exact ⟨_, hexec, hdone, hlast.rs, hlast.done, hlast.rxhold, hafter3.cfg ▸ hlast.spmode, hrest,
    fun a => congrArg (Memory.read · a) hafter3.dmem, ht1, ht2, ht3, hres, hafter3.rtc, hafter3.sns⟩

end Sys2Proof.Machine

/-! SUPPORT. The statement of 44_diagnostic.md: what CR_RD does (R221). -/

namespace Sys2Proof.Machine

/-! ### The diagnostic register read (R221) -/

/-- The registers that exist are CR0 to CR4 (R31, R232). -/
theorem crExists_iff (n : Byte) : crExists n = true ↔ n.toNat ≤ 4 := decide_eq_true_iff

/-- The `Immediate` step with a result (R133), whole: `RES` is put back, so only the port and the trace differ. -/
theorem State.answer_eq_answeredState (v : Data) (s : State) : s.answer v = answeredState s .ok v := rfl

/-- CR_RD of a register that exists is answered at once, with the register's value in the state it is run in (R221). -/
theorem exec_crRd_of_exists (s : State) {n : Byte} (hn : crExists n = true) :
    exec (.crRd n) s = .next (s.answer (crValue s n.toNat)) := by
  change execCrRd n s = _
  rw [execCrRd, if_pos hn]

/-- Settles O22: the operand check passes (`crExists_iff`), and the answer is an `Immediate` step
(`State.answer_eq_answeredState`). -/
theorem crRdCompletes : Obligations.CrRdCompletes := by
  intro s n hn
  rw [exec_crRd_of_exists s ((crExists_iff n).mpr hn), State.answer_eq_answeredState]

end Sys2Proof.Machine

/-! SUPPORT. The statements of 60_exceptions.md. The two command faults (R231, R232) are answers, whole by
`State.raise_eq_answeredState`. On its contract (`State.OnContract`) a micro-operation raises no fault of the model, so no
step from a state of the invariant does (R236). A command writes no port but the one it is served on (R43 item 5), and in the
hang (R245) the sequencer holds at its `Wait`, so the step changes nothing. -/

namespace Sys2Proof.Machine

/-! ### The operand checks, and a command whose check fails (R232, R233) -/

/-- Taking a command fault is answering the served port with the fault's code and DATA 0 (R233). -/
theorem State.raise_eq_answeredState (st : Status) (s : State) : s.raise st = answeredState s st 0 := rfl

theorem blockInDmem_eq_false_iff (buf count : Byte) :
    blockInDmem buf count = false ↔ count.toNat = 0 ∨ 256 < buf.toNat + count.toNat := by
  simp only [blockInDmem, Bool.and_eq_false_iff, decide_eq_false_iff_not]
  omega

theorem lineInDmem_eq_false_iff (buf : Byte) : lineInDmem buf = false ↔ 240 < buf.toNat := by
  simp [lineInDmem]

theorem crExists_eq_false_iff (n : Byte) : crExists n = false ↔ 4 < n.toNat := by
  simp [crExists]

theorem Instr.operandsOk_lcdDraw_eq_false_iff (buf1 buf2 buf3 : Byte) :
    (Instr.lcdDraw buf1 buf2 buf3).operandsOk = false ↔ 240 < buf1.toNat ∨ 240 < buf2.toNat ∨ 240 < buf3.toNat := by
  simp only [Instr.operandsOk, Bool.and_eq_false_iff, lineInDmem_eq_false_iff, or_assoc]

theorem exec_of_operands_fail {i : Instr} (h : i.operandsOk = false) (s : State) :
    exec i s = .next (answeredState s .badOperand 0) :=
  exec_badOperand i s h

/-- Settles O24: four commands have a check, whose failure each `…_eq_false_iff` states; a failing one is answered
(`exec_of_operands_fail`). -/
theorem badOperandsAreAnsweredAtOnce : Obligations.BadOperandsAreAnsweredAtOnce := by
  refine ⟨by decide, fun i => ?_, fun s a b c => ⟨fun hblock => ?_, fun hlines => ?_, fun hreg => ?_⟩⟩
  · cases hok : i.operandsOk with
    | true => exact .inl hok
    | false =>
      cases i with
      | rtcBwr buf addr count =>
        exact .inr (.inl ⟨buf, addr, count, .inl rfl, (blockInDmem_eq_false_iff buf count).mp hok⟩)
      | rtcBrd buf addr count =>
        exact .inr (.inl ⟨buf, addr, count, .inr rfl, (blockInDmem_eq_false_iff buf count).mp hok⟩)
      | lcdDraw buf1 buf2 buf3 =>
        exact .inr (.inr (.inl ⟨buf1, buf2, buf3, rfl, (Instr.operandsOk_lcdDraw_eq_false_iff buf1 buf2 buf3).mp hok⟩))
      | crRd n => exact .inr (.inr (.inr ⟨n, rfl, (crExists_eq_false_iff n).mp hok⟩))
      | _ => cases hok
  · have hbad : blockInDmem a c = false := (blockInDmem_eq_false_iff a c).mpr hblock
    exact ⟨exec_of_operands_fail (i := .rtcBwr a b c) hbad s, exec_of_operands_fail (i := .rtcBrd a b c) hbad s⟩
  · exact exec_of_operands_fail ((Instr.operandsOk_lcdDraw_eq_false_iff a b c).mpr hlines) s
  · exact exec_of_operands_fail (i := .crRd a) ((crExists_eq_false_iff a).mpr hreg) s

/-! ### A word that matches no command (R231) -/

theorem State.serve_of_illegal {s t : State} {p : Port} {w : Word} {why : Illegal} (ht : s.turn = some (p, t))
    (hw : t.portCmd p = some w) (hd : decode w = .illegal why) :
    s.serve = .next (answeredState t .illegalCommand 0) := by
  simp only [State.serve, ht, hw, hd, State.raise_eq_answeredState]

/-- A reserved word is no bus command (R148): it waits for no grant. -/
theorem classify_ne_bus_of_reservedWord {w : Word} (h : reservedWord w) : classify w ≠ .bus := by
  intro hbus
  obtain ⟨i, hi, _⟩ := (classify_bus w).mp hbus
  obtain ⟨why, hwhy⟩ := (illegalWordsAreExactlyTheReservedOnes w).mpr h
  cases hi.symm.trans hwhy

/-- Settles O25: a reserved word decodes to no command (`illegalWordsAreExactlyTheReservedOnes`), so the served port is
answered (`State.serve_of_illegal`), and no grant is waited for (`classify_ne_bus_of_reservedWord`). -/
theorem illegalWordsAreAnsweredAtOnce : Obligations.IllegalWordsAreAnsweredAtOnce := by
  refine ⟨by decide, fun s t p w hact hturn hw hres => ?_, fun s p w hw hres hown => ?_⟩
  · obtain ⟨why, hd⟩ := (illegalWordsAreExactlyTheReservedOnes w).mpr hres
    have hstep : step s = .next (answeredState t .illegalCommand 0) := calc
      step s = s.tickPause.serve := step_of_not_actDue s hact
      _ = .next (answeredState t .illegalCommand 0) := State.serve_of_illegal hturn hw hd
    obtain ⟨rfl, _⟩ := State.turn_some _ t p hturn
    exact ⟨hstep, rfl⟩
  · exact State.immediatePending_of hw (classify_ne_bus_of_reservedWord hres) hown

/-! ### No step of the invariant faults (R236, R147, R62) -/

theorem State.waitTick_ne_failed (s : State) (f : Fault) : s.waitTick ≠ .failed f := by
  unfold State.waitTick
  split
  · nofun
  · split
    · split <;> nofun
    · nofun

/-- On its contract no micro-operation of an owner's operation fails: a `Shift` is allowed (R147), a DMEM address exists
(R62), and the `Respond` has a port to answer. -/
theorem State.OnContract.microTick_ne_failed {s : State} {m : Micro} {ms : List Micro} {p : Port}
    (h : s.OnContract (m :: ms)) (ho : s.owner = some p) (f : Fault) : s.microTick m ≠ .failed f := by
  have hk := h.keeps
  cases m with
  | shift out =>
    rw [s.microTick_shift out (s.shiftAllowed_iff.mpr ⟨by simp [ho], h.shift_contract⟩)]
    nofun
  | memRead a i =>
    simp only [keepsContract, Bool.and_eq_true, decide_eq_true_eq] at hk
    simp [State.microTick, hk]
  | memWrite a i =>
    simp only [keepsContract, Bool.and_eq_true, decide_eq_true_eq] at hk
    simp [State.microTick, hk]
  | respond r => simp [State.microTick, ho]
  | wait => exact s.waitTick_ne_failed f
  | _ => nofun

/-- The running operation has a next micro-operation (R24), and that does not fail. -/
theorem State.RunsFor.seqTick_ne_failed {s : State} {p : Port} {w : Word} {i : Instr} (h : s.RunsFor p w i)
    (ho : s.owner = some p) (f : Fault) : s.seqTick (microSeq s.cfg i) ≠ .failed f := by
  have hc := h.contract
  rw [← State.headTick_drop]
  cases hms : (microSeq s.cfg i).drop s.upc.toNat with
  | nil => simpa [hms, keepsContract] using hc.keeps
  | cons m ms => exact State.OnContract.microTick_ne_failed (hms ▸ hc) ho f

/-- A run of the running operation does not fault, however far it comes. -/
theorem State.RunsFor.runSeq_ne_fault {s : State} {p : Port} {w : Word} {i : Instr} (h : s.RunsFor p w i)
    (ho : s.owner = some p) (rival : Bool) (n : Nat) (must : Bool) (f : Fault) :
    runSeq rival n must ((microSeq s.cfg i).drop s.upc.toNat) s ≠ .fault f := by
  intro hf
  obtain ⟨u, ⟨hown, hcfg, hu⟩, hfail⟩ := runSeq_fault (microSeq s.cfg i) (microSeq_length _ _)
    (fun u => u.owner = some p ∧ u.cfg = s.cfg ∧ u.RunsFor p w i)
    (fun u ⟨hown, hcfg, hu⟩ => ⟨by simpa using hown, by simpa using hcfg, hu.tickPause⟩)
    (fun u v ⟨hown, hcfg, hu⟩ hv => by
      obtain ⟨m, _, _, hm⟩ := u.seqTick_moved _ v hv
      obtain ⟨hvcfg, _, hvown, _⟩ := u.microTick_frame v m hm
      exact ⟨hvown.trans hown, hvcfg.trans hcfg, hu.seqTick (hcfg ▸ hv)⟩)
    rival n must s f ⟨ho, rfl, h⟩ hf
  exact hu.seqTick_ne_failed hown f (hcfg ▸ hfail)

/-- The life of a bus operation, at any of its stages (R149), from the grant on. -/
theorem State.runBus_ne_fault {s : State} {w : Word} {i : Instr} (h : s.inv = true) (hw : s.portCmd s.serving = some w)
    (hd : decode w = .command i) (hu : i.usesBus = true) (hok : i.operandsOk = true) (f : Fault) :
    runBus (microSeq s.cfg i) s ≠ .fault f := by
  rcases runBus_cases (microSeq s.cfg i) s with ⟨ho, hrun⟩ | ⟨ho, hrun⟩ | ⟨p, _, _, hrun⟩
  · obtain ⟨_, _, hfree⟩ := (s.inv_iff_of_free ho).mp h
    have hr : (s.grant s.serving).RunsFor s.serving w i := .grant hfree hw hd hu hok
    exact hrun ▸ hr.runSeq_ne_fault rfl _ _ _ f
  · exact hrun ▸ (State.runsFor_of_inv h ho hw hd).runSeq_ne_fault ho _ _ _ f
  · rw [hrun]; nofun

theorem State.exec_ne_fault {s : State} {w : Word} {i : Instr} (h : s.inv = true) (hw : s.portCmd s.serving = some w)
    (hd : decode w = .command i) (f : Fault) : exec i s ≠ .fault f := by
  cases hok : i.operandsOk with
  | false => rw [exec_badOperand i s hok]; nofun
  | true =>
    cases hu : i.usesBus with
    | false =>
      obtain ⟨d, hex⟩ := exec_nonBus i s hu hok
      rw [hex]; nofun
    | true => rw [exec_bus i s hu hok]; exact State.runBus_ne_fault h hw hd hu hok f

/-- The port that has the turn holds a word (R43 item 2). -/
theorem State.exists_portCmd_of_turn {s t : State} {p : Port} (h : s.inv = true) (ht : s.turn = some (p, t)) :
    ∃ w, s.portCmd p = some w := by
  obtain ⟨_, himm | hown | ⟨_, hbus⟩⟩ := s.turn_some t p ht
  · obtain ⟨w, hw, _⟩ := s.immediatePending_true p himm
    exact ⟨w, hw⟩
  · obtain ⟨_, _, w, i, hr⟩ := (s.inv_iff_of_owned p hown).mp h
    exact ⟨w, hr.port⟩
  · obtain ⟨w, hw, _⟩ := s.busPending_true p hbus
    exact ⟨w, hw⟩

theorem State.serve_ne_fault {s : State} (h : s.inv = true) (f : Fault) : s.serve ≠ .fault f := by
  rcases s.serve_cases with ⟨_, hs⟩ | ⟨p, t, hturn, hs⟩
  · rw [hs]; nofun
  · obtain ⟨v, hv⟩ := State.exists_portCmd_of_turn h hturn
    obtain ⟨rfl, _⟩ := s.turn_some t p hturn
    rcases hs with ⟨hnone, _⟩ | ⟨_, _, _, _, hs⟩ | ⟨w, i, hw, hd, hs⟩
    · cases hv.symm.trans hnone
    · rw [hs]; nofun
    · rw [hs]
      exact State.exec_ne_fault (s := { s with serving := p, choices := s.choices.tail }) h hw hd f

/-- Settles O26: an outside agent's act is no fault, nor is the block's step (`State.serve_ne_fault`). -/
theorem noStepOfTheMachineFaults : Obligations.NoStepOfTheMachineFaults := by
  intro s f h
  rcases step_cases s with ⟨p, w, r, _, hs⟩ | ⟨a, v, r, _, hs⟩ | ⟨r, _, hs⟩ | ⟨p, r, _, _, hs⟩ | ⟨_, hs⟩
  · rw [hs]; exact State.hostIssue_ne_fault p w _ f
  · rw [hs]; nofun
  · rw [hs]; nofun
  · rw [hs]; nofun
  · rw [hs]; exact State.serve_ne_fault (s.inv_tickPause.trans h) f

/-! ### What a command leaves alone (R43 item 5, R26, R250) -/

/-- Of the ports only the served one may differ in the second state, where it is idle; the configuration and the schedule are
as in the first. -/
structure State.OnlyServedPort (s t : State) : Prop where
  cfg     : t.cfg = s.cfg
  serving : t.serving = s.serving
  choices : t.choices = s.choices
  ports   : t.ports = s.ports ∨ t.ports = s.ports.set s.serving.val none

theorem State.onlyServedPort_respond (s : State) (st : Status) (d : Data) : s.OnlyServedPort (s.respond s.serving st d) :=
  ⟨rfl, rfl, rfl, .inr rfl⟩

theorem State.OnlyServedPort.length_ports {s t : State} (h : s.OnlyServedPort t) : t.ports.length = s.ports.length := by
  rcases h.ports with hp | hp <;> simp [hp]

theorem State.OnlyServedPort.portCmd {s t : State} (h : s.OnlyServedPort t) {q : Port} (hq : q ≠ s.serving) :
    t.portCmd q = s.portCmd q := by
  rcases h.ports with hp | hp
  · exact s.portCmd_congr t q hp
  · calc
      t.portCmd q = (s.setPort s.serving none).portCmd q := State.portCmd_congr (s.setPort s.serving none) t q hp
      _ = s.portCmd q := s.portCmd_setPort_of_ne s.serving q none hq

/-- A run for the served port, wherever it stops: only the response writes a port, the owner's, which is the served one. -/
theorem State.onlyServedPort_of_runSeq {s t : State} (ho : s.owner = some s.serving) (seq : List Micro)
    (hl : seq.length < 65536) (rival : Bool) (n : Nat) (must : Bool)
    (h : runSeq rival n must (seq.drop s.upc.toNat) s = .next t) : s.OnlyServedPort t := by
  have hrun := runSeq_induction seq hl
    (fun u => u.cfg = s.cfg ∧ u.serving = s.serving ∧ u.choices = s.choices ∧ u.ports = s.ports ∧ u.owner = some s.serving)
    (fun u hu => by simpa using hu)
    (fun u v ⟨hcfg, hserving, hchoices, hports, hown⟩ hv => by
      obtain ⟨m, _, _, hm⟩ := u.seqTick_moved seq v hv
      obtain ⟨hcfg', hports', hown', _, hserving', _, hchoices', _⟩ := u.microTick_frame v m hm
      exact ⟨hcfg'.trans hcfg, hserving'.trans hserving, hchoices'.trans hchoices, hports'.trans hports, hown'.trans hown⟩)
    rival n must s t ⟨rfl, rfl, rfl, rfl, ho⟩ h
  rcases hrun with ⟨hcfg, hserving, hchoices, hports, _⟩ | ⟨u, ⟨hcfg, hserving, hchoices, hports, hown⟩, ht⟩
  · exact ⟨hcfg, hserving, hchoices, .inl hports⟩
  · obtain ⟨r, p, _, hp, rfl⟩ := u.seqTick_responded seq t ht
    cases hown.symm.trans hp
    exact ⟨hcfg, hserving, hchoices, .inr (by rw [State.release_ports, hports])⟩

theorem State.onlyServedPort_of_runBus {s t : State} (seq : List Micro) (hl : seq.length < 65536)
    (h : runBus seq s = .next t) : s.OnlyServedPort t := by
  rcases runBus_cases seq s with ⟨_, hrun⟩ | ⟨ho, hrun⟩ | ⟨p, _, _, hrun⟩
  · obtain ⟨hcfg, hserving, hchoices, hports⟩ :=
      State.onlyServedPort_of_runSeq (s := s.grant s.serving) rfl seq hl _ _ _ (hrun.symm.trans h)
    exact ⟨hcfg, hserving, hchoices, hports⟩
  · exact State.onlyServedPort_of_runSeq ho seq hl _ _ _ (hrun.symm.trans h)
  · cases hrun.symm.trans h
    exact ⟨rfl, rfl, rfl, .inl rfl⟩

theorem State.onlyServedPort_of_exec {s t : State} {i : Instr} (h : exec i s = .next t) : s.OnlyServedPort t := by
  cases hok : i.operandsOk with
  | false =>
    cases (exec_badOperand i s hok).symm.trans h
    exact s.onlyServedPort_respond _ _
  | true =>
    cases hu : i.usesBus with
    | false =>
      obtain ⟨d, hex⟩ := exec_nonBus i s hu hok
      cases hex.symm.trans h
      exact s.onlyServedPort_respond _ _
    | true =>
      rw [exec_bus i s hu hok] at h
      exact State.onlyServedPort_of_runBus _ (microSeq_length s.cfg i) h

/-- Settles O27: of the ports a command writes at most the served one (`State.onlyServedPort_of_exec`). -/
theorem commandsLeaveOtherPortsAlone : Obligations.CommandsLeaveOtherPortsAlone := by
  intro i s t h
  have hframe : s.OnlyServedPort t := State.onlyServedPort_of_exec h
  exact ⟨hframe.cfg, hframe.serving, hframe.choices, hframe.length_ports, fun q => hframe.portCmd⟩

/-! ### The hang (R245) -/

/-- The command `i`, the word `w` of the owner's port `p`, is at a `Wait` whose exchange the environment does not complete. -/
structure State.HangsFor (s : State) (p : Port) (w : Word) (i : Instr) : Prop where
  port       : s.portCmd p = some w
  decodes    : decode w = .command i
  usesBus    : i.usesBus = true
  operands   : i.operandsOk = true
  waits      : atWait ((microSeq s.cfg i).drop s.upc.toNat) = true
  busy       : s.busy = true
  notDone    : s.done = false
  unanswered : s.nextAnswer = none

theorem State.hangsFor_of_hung {s : State} {p : Port} (h : s.hung = true) (ho : s.owner = some p) :
    ∃ w i, s.HangsFor p w i := by
  simp only [State.hung, ho] at h
  split at h
  · cases h
  · rename_i w hw
    split at h
    · cases h
    · rename_i i hd
      simp only [Bool.and_eq_true, Bool.not_eq_true'] at h
      obtain ⟨⟨⟨⟨⟨hu, hok⟩, hwait⟩, hb⟩, hdone⟩, hans⟩ := h
      refine ⟨w, i, hw, hd, hu, hok, hwait, hb, hdone, ?_⟩
      split at hans
      · assumption
      · cases hans

theorem State.headTick_of_atWait (s : State) {ms : List Micro} (h : atWait ms = true) : s.headTick ms = s.waitTick := by
  unfold atWait at h
  split at h
  · rfl
  · cases h

/-- The sequencer holds, so the command's meaning leaves the state as it is (R25, R141). -/
theorem State.HangsFor.exec_eq_self {s : State} {w : Word} {i : Instr} (h : s.HangsFor s.serving w i)
    (ho : s.owner = some s.serving) : exec i s = .next s := by
  have hholds : s.headTick ((microSeq s.cfg i).drop s.upc.toNat) = .holds :=
    (s.headTick_of_atWait h.waits).trans (s.waitTick_holds h.notDone (.inr h.unanswered))
  rw [exec_bus i s h.usesBus h.operands]
  simp [runBus, ho, fuelFor, runSeq, hholds]

theorem State.undisturbed_iff (s : State) :
    s.undisturbed = true ↔ s.inputs = [] ∧ ∀ q, q ≠ s.serving → s.immediatePending q = false := by
  simp [State.undisturbed, State.rivalPending, allPorts]

/-- With no other port due and no choice made, the turn is the owner's. -/
theorem State.turn_of_owner {s : State} (ho : s.owner = some s.serving) (hc : s.choices = [])
    (hq : ∀ q, q ≠ s.serving → s.immediatePending q = false) : s.turn = some (s.serving, s) := by
  have hown : s.immediatePending s.serving = false := Bool.eq_false_iff.mpr (fun himm => by
    obtain ⟨_, _, _, hne⟩ := s.immediatePending_true _ himm
    exact hne ho)
  have hnone : lowestPort s.immediatePending = none := lowestPort_eq_none _ (fun q => by
    by_cases hs : q = s.serving
    · exact hs ▸ hown
    · exact hq q hs)
  exact s.turn_of_no_choices s.serving hc (by simp only [State.defaultPort, hnone, State.busTurn, ho])

/-- A state that a step leaves as it is stays for ever. -/
theorem runSteps_of_step_eq {s : State} (h : step s = .next s) (n : Nat) : runSteps n s = .next s := by
  induction n with
  | zero => rfl
  | succ n ih =>
    simp only [runSteps, Host.Core.run, h]
    exact ih

/-- Settles O59: the owner has the turn (`State.turn_of_owner`) and holds (`State.HangsFor.exec_eq_self`), so the step, and
every step after it, changes nothing; and a busy block is not quiescent. -/
theorem hangIsForEver : Obligations.HangIsForEver := by
  intro s hhung hund ho hc
  obtain ⟨hin, hothers⟩ := s.undisturbed_iff.mp hund
  obtain ⟨w, i, h⟩ := State.hangsFor_of_hung hhung ho
  have hstep : step s = .next s := calc
    step s = s.serve := by simp only [step, State.stepOnce, hin]
    _ = exec i s := s.serve_of_command s s.serving w i (State.turn_of_owner ho hc hothers) h.port h.decodes
    _ = .next s := h.exec_eq_self ho
  exact ⟨hstep, by simp [State.quiescent, h.busy], h.busy, runSteps_of_step_eq hstep⟩

end Sys2Proof.Machine

/-! SUPPORT. The statements of 70_reset_and_hazards.md: reset and idleness (R270, R272), the DMEM owner's writes (R287), and
three facts of the micro-sequences: what each leaves in `DONE` (R289), that each defines a register before it reads it (R292,
R21), and how long each is (R296). The first two are carried over from the lists to an answered operation's run
(`State.exists_fastRun_of_ready`). -/

namespace Sys2Proof.Machine

/-! ### Reset (R270) -/

theorem lineEvent_injective {l m : Line} {x y : Bool} (h : lineEvent l x = lineEvent m y) : l = m := by
  cases l <;> cases m <;> simp_all [lineEvent]

theorem mem_resetLineEvents (s : State) (e : Event) : e ∈ resetLineEvents s ↔
    ∃ l, s.level l ≠ resetLevel s.cfg l ∧ e = lineEvent l (resetLevel s.cfg l) := by
  have hall : ∀ l : Line, l ∈ ([.cs .rtc, .cs .sns, .cs .lcd, .rs] : List Line) := by
    rintro (d | _)
    · cases d <;> decide
    · decide
  simp only [resetLineEvents, List.mem_filterMap]
  refine exists_congr (fun l => ?_)
  simp [hall, eq_comm]

/-- Each line has at most one event. -/
theorem nodup_resetLineEvents (s : State) : (resetLineEvents s).Nodup := by
  refine List.Pairwise.filterMap (R := (· ≠ ·)) _ (fun l m hne e hl f hm hef => ?_) (by decide)
  have hle : lineEvent l (resetLevel s.cfg l) = e := Option.some.inj (Option.ite_none_left_eq_some.mp hl).2
  have hmf : lineEvent m (resetLevel s.cfg m) = f := Option.some.inj (Option.ite_none_left_eq_some.mp hm).2
  exact hne (lineEvent_injective (hle.trans (hef.trans hmf.symm)))

/-- The transaction of a selected RTC-ref ends with the reset's drive of its line (R91, R270). -/
theorem resetPeriph_rtc_phase {s : State} (h : s.selected .rtc = true) : (resetPeriph s).rtc.phase = .idle := by
  have hlevel : s.cs.rtc = s.cfg.csActive.rtc := by simpa [State.selected, PerDev.get] using h
  simp [resetPeriph, Periph.onLine, RtcRef.onLine, State.level, resetLevel, PerDev.get, hlevel]

/-- Settles O57: the block is that of `State.resetOf`, the events are one for each line that is not at its reset level
(`mem_resetLineEvents`), and of the reference peripherals a reset ends RTC-ref's transaction (`resetPeriph_rtc_phase`). -/
theorem resetInAnyState : Obligations.ResetInAnyState := by
  intro s r hin
  have hstep : step s = .next (State.resetBlock { s with inputs := r }) := by simp only [step, State.stepOnce, hin]
  have hevents : ∀ e, e ∈ resetLineEvents s ↔
      (∃ d, s.cs.get d ≠ (!s.cfg.csActive.get d) ∧ e = .cs d (!s.cfg.csActive.get d))
      ∨ (s.rs ≠ s.cfg.rsCmd ∧ e = .rs s.cfg.rsCmd) := fun e => by
    rw [mem_resetLineEvents]
    constructor
    · rintro ⟨d | _, hne, rfl⟩
      · exact .inl ⟨d, hne, rfl⟩
      · exact .inr ⟨hne, rfl⟩
    · rintro (⟨d, hne, rfl⟩ | ⟨hne, rfl⟩)
      · exact ⟨.cs d, hne, rfl⟩
      · exact ⟨.rs, hne, rfl⟩
  exact ⟨_, resetLineEvents s, hstep, rfl, nodup_resetLineEvents s, hevents, State.portCmd_resetOf s.cfg, rfl, rfl, rfl, rfl,
    rfl, rfl, rfl, State.selected_resetOf s.cfg, rfl, rfl, rfl, rfl, rfl, resetPeriph_rtc_reg s, resetPeriph_sns s,
    resetPeriph_lcd s, resetPeriph_rtc_phase⟩

/-! ### Idleness (R272, R14) -/

theorem State.quiescent_iff (s : State) : s.quiescent = true ↔
    (∀ c ∈ s.ports, c = none) ∧ s.owner = none ∧ s.busy = false ∧ s.allDeselected = true := by
  simp [State.quiescent, and_assoc]

theorem State.quiescent_resetOf (c : Config) : (State.resetOf c).quiescent = true := by
  obtain ⟨hown, hbusy, hoff, _⟩ := (State.busFree_iff _).mp (State.busFree_resetOf c)
  exact (State.quiescent_iff _).mpr ⟨fun _ hc => List.eq_of_mem_replicate hc, hown, hbusy, hoff⟩

theorem State.portCmd_of_quiescent {s : State} (h : s.quiescent = true) (p : Port) : s.portCmd p = none := by
  obtain ⟨hports, _⟩ := s.quiescent_iff.mp h
  unfold State.portCmd
  split
  · exact hports _ (List.mem_of_getElem? ‹_›)
  · rfl

/-- Settles O58: a reset idles every port and deselects every device; with no port pending and no owner the block has no turn
(`State.serve_of_idle`). -/
theorem quiescentBlockIsIdle : Obligations.QuiescentBlockIsIdle := by
  refine ⟨State.quiescent_resetOf, fun s => State.quiescent_resetOf s.cfg, fun s hq hin => ?_⟩
  obtain ⟨_, hown, _⟩ := s.quiescent_iff.mp hq
  calc
    step s = s.serve := by simp only [step, State.stepOnce, hin]
    _ = .next s := s.serve_of_idle hown (State.portCmd_of_quiescent hq)

/-! ### Writes of the DMEM owner (R287) -/

/-- Settles O44: the act writes the one byte of DMEM, of which the laws of memories say what reads as before. -/
theorem hostWritesDmemAtAnyTime : Obligations.HostWritesDmemAtAnyTime := by
  intro s a v r hin hwf
  have hstep : step s = .next (State.hostPoke a v { s with inputs := r }) := by simp only [step, State.stepOnce, hin]
  exact ⟨s.dmem.write a.toNat v, hstep, Memory.read_write_same dmemSize _ _ v hwf,
    fun b hb => Memory.read_write_of_ne _ _ b v hb, Memory.wf_write dmemSize _ _ v a.isLt hwf⟩

/-! ### An answered operation, as the run of its micro-operations -/

/-- A ready command's micro-operations run to its `Respond`, if the environment answers its exchanges. -/
theorem State.exists_fastRun_of_ready {s : State} {i : Instr} {ans rest : List Answer}
    (hi : i.usesBus = true ∧ i.wellFormed = true) (hready : s.readyFor i = true) (hrx : s.rx = ans ++ rest)
    (hlen : ans.length = exchangeCount (microSeq s.cfg i)) (hnever : ∀ a, a ∈ ans → a ≠ .never) :
    ∃ body r t, microSeq s.cfg i = body ++ [.respond r] ∧ fastRun body (s.grant s.serving) = some t := by
  obtain ⟨hu, hwf⟩ := hi
  obtain ⟨hport, hfree, _⟩ := (s.readyFor_iff i).mp hready
  obtain ⟨_, hbusy, _, _, _, hdly⟩ := s.busFree_iff.mp hfree
  have hgrant : (s.grant s.serving).OnContract (microSeq s.cfg i) :=
    (State.RunsFor.grant hfree hport (decodeOfEncodeIsTheCommand i) hu hwf).contract
  have hans : (s.grant s.serving).AnswersAll (microSeq s.cfg i) rest :=
    ⟨ans, hrx, by simpa [hbusy] using hlen, fun hn => hnever _ hn rfl⟩
  obtain ⟨body, r, hseq, hno⟩ := keepsContract_respond_last s.cfg none none false _ (microSeq_keepsContract _ none i hu hwf)
  rw [hseq] at hgrant hans
  obtain ⟨t, hrun, _⟩ := hgrant.exists_fastRun hno hdly (by simp) hans
  exact ⟨body, r, t, hseq, hrun⟩

/-- Its meaning is that run and the release. -/
theorem exec_of_fastRun {s t : State} {i : Instr} {body : List Micro} {r : Bool} (hi : i.usesBus = true ∧ i.wellFormed = true)
    (hready : s.readyFor i = true) (hseq : microSeq s.cfg i = body ++ [.respond r])
    (hrun : fastRun body (s.grant s.serving) = some t) :
    exec i s = .next (t.release s.serving (if r then t.res else 0)) := by
  obtain ⟨_, hfree, hin, hrival⟩ := (s.readyFor_iff i).mp hready
  obtain ⟨hown, _, _, _, _, hdly⟩ := s.busFree_iff.mp hfree
  rw [exec_bus i s hi.1 hi.2, hseq]
  exact runBus_ready body r s t hown hin hrival hdly hrun

/-- A whole `Wait` passes a `DONE` that is set, or completes the exchange first (R141, R145). -/
theorem fastMicro_wait_iff (s t : State) : fastMicro s .wait = some t ↔
    (s.done = true ∧ t = s.advance)
    ∨ (s.done = false ∧ s.busy = true
        ∧ ∃ b r, s.nextAnswer = some (b, r) ∧ t = (State.complete b { s with rx := r }).advance) := by
  simp only [fastMicro]
  constructor
  · intro h
    split at h
    · cases h
      exact .inl ⟨‹_›, rfl⟩
    · rename_i hdone
      split at h
      · split at h <;> cases h
        exact .inr ⟨Bool.eq_false_iff.mpr hdone, ‹_›, _, _, ‹_›, rfl⟩
      · cases h
  · rintro (⟨hdone, rfl⟩ | ⟨hdone, hbusy, b, r, hn, rfl⟩)
    · rw [if_pos hdone]
    · rw [if_neg (Bool.eq_false_iff.mp hdone), if_pos hbusy, hn]

/-! ### `DONE` after a command (R289) -/

/-- What a whole micro-operation leaves in `DONE` (R140 to R143). -/
def Micro.doneAfter (d : Bool) : Micro → Bool
  | .wait => true
  | .shift _ | .takeRx _ | .drain => false
  | .cfg _ | .line _ _ | .delay _ | .memRead _ _ | .memWrite _ _ | .setRes _ | .respond _ => d

theorem done_of_fastMicro {s t : State} {m : Micro} (h : fastMicro s m = some t) : t.done = m.doneAfter s.done := by
  cases m with
  | shift o =>
    simp only [fastMicro] at h
    split at h <;> cases h
    rfl
  | wait =>
    rcases (fastMicro_wait_iff s t).mp h with ⟨hd, rfl⟩ | ⟨_, _, _, _, _, rfl⟩
    · exact hd
    · rfl
  | memRead a i =>
    simp only [fastMicro] at h
    split at h <;> cases h
    simp [Micro.doneAfter]
  | memWrite a i =>
    simp only [fastMicro] at h
    split at h <;> cases h
    rfl
  | respond r => cases h
  | _ =>
    cases h
    simp [Micro.doneAfter]

/-- What micro-operations in order leave in `DONE`. -/
def doneAfter (d : Bool) (ms : List Micro) : Bool := ms.foldl Micro.doneAfter d

theorem doneAfter_append (d : Bool) (a b : List Micro) : doneAfter d (a ++ b) = doneAfter (doneAfter d a) b :=
  List.foldl_append

theorem done_of_fastRun {ms : List Micro} {s t : State} (h : fastRun ms s = some t) : t.done = doneAfter s.done ms := by
  induction ms generalizing s with
  | nil => cases h; rfl
  | cons m ms ih =>
    rw [fastRun_cons, Option.bind_eq_some_iff] at h
    obtain ⟨u, hu, ht⟩ := h
    rw [ih ht, done_of_fastMicro hu]
    rfl

/-- The micro-operations leave `b` in `DONE`, whatever it was before. -/
def LeavesDone (b : Bool) (ms : List Micro) : Prop := ∀ d, doneAfter d ms = b

theorem LeavesDone.prepend {b : Bool} {ms : List Micro} (h : LeavesDone b ms) (a : List Micro) : LeavesDone b (a ++ ms) :=
  fun d => (doneAfter_append d a ms).trans (h _)

/-- What touches no exchange may follow. -/
theorem LeavesDone.append {b : Bool} {ms : List Micro} (h : LeavesDone b ms) {a : List Micro} (ha : ∀ d, doneAfter d a = d) :
    LeavesDone b (ms ++ a) := fun d => by rw [doneAfter_append, ha, h]

/-- A loop leaves what its last turn does. -/
theorem leavesDone_flatMap {α : Type} {b : Bool} {l : List α} {body : α → List Micro} (hl : l ≠ [])
    (h : ∀ x, LeavesDone b (body x)) : LeavesDone b (l.flatMap body) := by
  rw [← List.dropLast_concat_getLast hl, List.flatMap_append, List.flatMap_singleton]
  exact (h _).prepend _

/-- A byte drained before its exchange leaves `DONE` set, one drained after it does not (R202). -/
theorem leavesDone_lcdByte (c : Config) (level : Bool) (o : Source) (before : Bool) :
    LeavesDone before (lcdByte c level o before) := by
  cases before <;> exact fun _ => rfl

theorem leavesDone_drawLine (c : Config) (line : Byte × Byte) : LeavesDone (!c.lcdDrainCmdBefore) (drawLine c line) :=
  (leavesDone_flatMap (by decide) (fun _ => (leavesDone_lcdByte c _ _ _).prepend [_])).prepend _

/-- The table of R289 for the bus commands. -/
def doneTable (c : Config) : Instr → Bool
  | .rtcWr _ _ => true
  | .rtcBwr _ _ _ => true
  | .lcdCmd _ => c.lcdDrainCmdBefore
  | .lcdInit => c.lcdDrainCmdBefore
  | .lcdDat _ => !c.lcdDrainCmdBefore
  | .lcdDraw _ _ _ => !c.lcdDrainCmdBefore
  | _ => false

/-- A block of a well-formed command is not empty (R232). -/
theorem range_ne_nil_of_blockInDmem {buf count : Byte} (h : blockInDmem buf count = true) : List.range count.toNat ≠ [] := by
  simp only [blockInDmem, Bool.and_eq_true, decide_eq_true_eq] at h
  simp only [ne_eq, List.range_eq_nil]
  omega

theorem microSeq_leavesDone (c : Config) {i : Instr} (hu : i.usesBus = true) (hok : i.operandsOk = true) :
    LeavesDone (doneTable c i) (microSeq c i) := by
  cases i with
  | rtcWr a v => exact fun _ => rfl
  | rtcRd a => exact fun _ => rfl
  | rtcBwr b a n =>
    have hloop : LeavesDone true ((List.range n.toNat).flatMap (blockWriteByte b)) :=
      leavesDone_flatMap (range_ne_nil_of_blockInDmem hok) (fun _ _ => rfl)
    exact ((hloop.prepend _).append (fun _ => rfl)).append (fun _ => rfl)
  | rtcBrd b a n =>
    have hloop : LeavesDone false ((List.range n.toNat).flatMap (blockReadByte c b)) :=
      leavesDone_flatMap (range_ne_nil_of_blockInDmem hok) (fun _ _ => rfl)
    exact ((hloop.prepend _).append (fun _ => rfl)).append (fun _ => rfl)
  | rtcTime => exact fun _ => rfl
  | fmtTime b => cases hu
  | snsCfg => exact fun _ => rfl
  | snsRd => exact fun _ => rfl
  | lcdCmd b => exact (leavesDone_lcdByte c _ _ _).append (fun _ => rfl)
  | lcdDat b => exact (leavesDone_lcdByte c _ _ _).append (fun _ => rfl)
  | lcdInit =>
    have hloop : LeavesDone c.lcdDrainCmdBefore (c.lcdInitSeq.toList.flatMap (fun b => lcdCommandByte c (.imm b))) :=
      leavesDone_flatMap (by simp [LcdInitSeq.toList]) (fun _ => leavesDone_lcdByte c _ _ _)
    exact (hloop.prepend [.delay .lcdPowerup]).append (fun _ => rfl)
  | lcdDraw x y z =>
    exact (leavesDone_flatMap (by simp [drawLines]) (leavesDone_drawLine c)).append (fun _ => rfl)
  | crRd n => cases hu

/-- A command that is answered without the bus touches no flag (R133, R233). -/
theorem done_of_exec_immediate {s t : State} {i : Instr} (hi : i.usesBus = false ∨ i.wellFormed = false)
    (h : exec i s = .next t) : t.done = s.done := by
  cases hok : i.operandsOk with
  | false =>
    cases (exec_badOperand i s hok).symm.trans h
    rfl
  | true =>
    have hu : i.usesBus = false := hi.resolve_right (by simp [Instr.wellFormed, hok])
    obtain ⟨d, hex⟩ := exec_nonBus i s hu hok
    cases hex.symm.trans h
    rfl

/-- Settles O55: an answered operation leaves in `DONE` what its micro-sequence does (`done_of_fastRun`), which is its row of
the table (`microSeq_leavesDone`); any other command is a response. -/
theorem doneAfterEachCommand : Obligations.DoneAfterEachCommand := by
  refine ⟨fun s t i ans rest hu hwf hready hrx hlen hnever h => ?_, fun s t i => done_of_exec_immediate⟩
  obtain ⟨body, r, u, hseq, hrun⟩ := State.exists_fastRun_of_ready ⟨hu, hwf⟩ hready hrx hlen hnever
  cases (exec_of_fastRun ⟨hu, hwf⟩ hready hseq hrun).symm.trans h
  have hdone : u.done = doneTable s.cfg i := calc
    u.done = doneAfter s.done body := done_of_fastRun (s := s.grant s.serving) hrun
    _ = doneAfter s.done (microSeq s.cfg i) := by rw [hseq, doneAfter_append]; rfl
    _ = doneTable s.cfg i := microSeq_leavesDone s.cfg hu hwf _
  cases i <;> exact hdone

/-! ### Stale registers (R292, R21) -/

/-- The state `s` with what `r` holds in the registers that an operation leaves behind (R292). -/
def State.withStale (s r : State) : State :=
  { s with
    done   := r.done
    rxhold := r.rxhold
    txbyte := r.txbyte
    res    := r.res
    t0     := r.t0
    t1     := r.t1
    t2     := r.t2
    t3     := r.t3 }

/-- Those registers. -/
inductive StaleReg where
  | done | rxhold | txbyte | res
  | temp (i : Temp)

/-- The register holds the same in both states. Of `DONE` this says as well that a byte it announces is the same (R27). -/
def StaleReg.Same (x : StaleReg) (s u : State) : Prop :=
  match x with
  | .done => u.done = s.done ∧ (s.done = true → u.rxhold = s.rxhold)
  | .rxhold => u.rxhold = s.rxhold
  | .txbyte => u.txbyte = s.txbyte
  | .res => u.res = s.res
  | .temp i => u.temp i = s.temp i

/-- The registers whose values a `Shift` sends. -/
def Source.reads : Source → List StaleReg
  | .imm _ => []
  | .temp i => [.temp i]

/-- The registers whose values `RES` is made of. -/
def ResultForm.reads : ResultForm → List StaleReg
  | .readByte => [.temp .t0]
  | .time => [.temp .t1, .temp .t2, .temp .t3]
  | .sample => [.temp .t0, .temp .t1, .temp .t2, .temp .t3]

/-- The registers that a whole micro-operation reads. -/
def Micro.reads : Micro → List StaleReg
  | .shift o => o.reads
  | .wait => [.done, .txbyte]
  | .takeRx _ => [.rxhold]
  | .memWrite _ i => [.temp i]
  | .setRes f => f.reads
  | .respond r => if r then [.res] else []
  | .cfg _ | .line _ _ | .delay _ | .drain | .memRead _ _ => []

/-- The registers in which a whole micro-operation leaves nothing stale. -/
def Micro.defines : Micro → List StaleReg
  | .shift _ => [.done, .txbyte]
  | .wait => [.done, .rxhold]
  | .takeRx i => [.temp i, .done]
  | .drain => [.done]
  | .memRead _ i => [.temp i]
  | .setRes _ => [.res]
  | .cfg _ | .line _ _ | .delay _ | .memWrite _ _ | .respond _ => []

theorem StaleReg.same_advance {x : StaleReg} {s u : State} (h : x.Same s u) : x.Same s.advance u.advance := by
  cases x <;> exact h

theorem StaleReg.same_emit {x : StaleReg} {s u : State} (h : x.Same s u) (e f : Event) : x.Same (s.emit e) (u.emit f) := by
  cases x <;> exact h

theorem StaleReg.same_clearDone {x : StaleReg} {s u : State} (h : x = .done ∨ x.Same s u) : x.Same s.clearDone u.clearDone := by
  cases x with
  | done => exact ⟨rfl, nofun⟩
  | _ => exact h.resolve_left nofun

theorem StaleReg.same_setTemp {x : StaleReg} {s u : State} {i : Temp} (h : x = .temp i ∨ x.Same s u) (b : Byte) :
    x.Same (s.setTemp i b) (u.setTemp i b) := by
  cases x with
  | temp j =>
    by_cases hj : j = i
    · simp [StaleReg.Same, hj]
    · simpa [StaleReg.Same, State.setTemp_temp_of_ne i j b _ hj, hj] using h
  | _ => simpa [StaleReg.Same] using h

theorem StaleReg.same_startShift {x : StaleReg} {s u : State} (h : x ∈ [.done, .txbyte] ∨ x.Same s u) (b : Byte) :
    x.Same (s.startShift b) (u.startShift b) := by
  cases x with
  | done => exact ⟨rfl, nofun⟩
  | txbyte => rfl
  | _ => exact h.resolve_left (by simp)

theorem StaleReg.same_complete {x : StaleReg} {s u : State} (h : x ∈ [.done, .rxhold] ∨ x.Same s u) (b : Byte) :
    x.Same (s.complete b) (u.complete b) := by
  cases x with
  | done => exact ⟨rfl, fun _ => rfl⟩
  | rxhold => rfl
  | _ => exact h.resolve_left (by simp)

theorem StaleReg.same_setRes {x : StaleReg} {s u : State} (h : x = .res ∨ x.Same s u) (d : Data) :
    x.Same (s.setRes d) (u.setRes d) := by
  cases x with
  | res => rfl
  | _ => exact h.resolve_left nofun

/-- A `Shift` sends the same, and a result is the same, where the registers it is read from are. -/
theorem State.source_of_same {s u : State} {o : Source} (h : ∀ x ∈ o.reads, x.Same s u) : u.source o = s.source o := by
  cases o with
  | imm b => rfl
  | temp i => exact h _ (List.mem_singleton_self _)

theorem State.result_of_same {s u : State} {f : ResultForm} (h : ∀ x ∈ f.reads, x.Same s u) : u.result f = s.result f := by
  cases f <;> simp_all [ResultForm.reads, StaleReg.Same, State.temp, State.result]

/-- The reference peripherals see of the stale registers only the byte shifted out. -/
theorem State.referenceReply_of_same {s u : State} (hu : u = s.withStale u) (htx : u.txbyte = s.txbyte) :
    u.referenceReply = s.referenceReply := by
  have hsel : u.selectedDev = s.selectedDev := State.selectedDev_congr (by rw [hu]; rfl) (by rw [hu]; rfl)
  simp only [State.referenceReply, hsel, htx]
  rw [hu]
  rfl

theorem State.nextAnswer_of_same {s u : State} (hu : u = s.withStale u) (htx : u.txbyte = s.txbyte) :
    u.nextAnswer = s.nextAnswer := by
  have hrx : u.rx = s.rx := by rw [hu]; rfl
  simp only [State.nextAnswer, State.referenceReply_of_same hu htx, hrx]

/-- `u` is `s` but for stale registers, and the registers of `K` are not stale. -/
structure State.SameButStale (K : List StaleReg) (s u : State) : Prop where
  rest  : u = s.withStale u
  known : ∀ x ∈ K, x.Same s u

theorem State.SameButStale.fastMicro_wait {K : List StaleReg} {s u t : State} (h : s.SameButStale K u)
    (hreads : [.done, .txbyte] ⊆ K) (ht : fastMicro s .wait = some t) :
    ∃ v, fastMicro u .wait = some v ∧ t.SameButStale ([.done, .rxhold] ++ K) v := by
  obtain ⟨hu, hknown⟩ := h
  obtain ⟨hdone, hhold⟩ : StaleReg.done.Same s u := hknown _ (hreads (by simp))
  have htx : u.txbyte = s.txbyte := hknown .txbyte (hreads (by simp))
  rcases (fastMicro_wait_iff s t).mp ht with ⟨hd, rfl⟩ | ⟨hd, hb, b, r, hn, rfl⟩
  · refine ⟨u.advance, (fastMicro_wait_iff u _).mpr (.inl ⟨hdone.trans hd, rfl⟩), by rw [hu]; rfl, fun x hx => ?_⟩
    apply StaleReg.same_advance
    simp only [List.cons_append, List.nil_append, List.mem_cons] at hx
    rcases hx with rfl | rfl | hx
    · exact ⟨hdone, hhold⟩
    · exact hhold hd
    · exact hknown x hx
  · refine ⟨(State.complete b { u with rx := r }).advance,
      (fastMicro_wait_iff u _).mpr (.inr ⟨hdone.trans hd, ?_, b, r, ?_, rfl⟩), ?_,
      fun x hx => StaleReg.same_advance (StaleReg.same_complete ?_ b)⟩
    · rw [hu]; exact hb
    · rw [State.nextAnswer_of_same hu htx, hn]
    · simp only [State.complete, htx]
      rw [hu]
      rfl
    · exact (List.mem_append.mp hx).imp_right (fun hx => by cases x <;> exact hknown _ hx)

/-- What a whole micro-operation does depends on no stale register if it reads none; and it leaves those it defines not stale. -/
theorem State.SameButStale.fastMicro {K : List StaleReg} {s u t : State} {m : Micro} (h : s.SameButStale K u)
    (hreads : m.reads ⊆ K) (ht : fastMicro s m = some t) :
    ∃ v, fastMicro u m = some v ∧ t.SameButStale (m.defines ++ K) v := by
  obtain ⟨hu, hknown⟩ := h
  cases m with
  | wait => exact State.SameButStale.fastMicro_wait ⟨hu, hknown⟩ hreads ht
  | cfg d =>
    cases ht
    exact ⟨_, rfl, by rw [hu]; rfl, fun x hx => by cases x <;> exact hknown _ hx⟩
  | line l level =>
    cases ht
    refine ⟨_, rfl, ?_, fun x hx => ?_⟩
    · rw [hu]; cases l <;> rfl
    · cases l <;> cases x <;> exact hknown _ hx
  | delay m =>
    cases ht
    exact ⟨_, rfl, by rw [hu]; rfl, fun x hx => by cases x <;> exact hknown _ hx⟩
  | shift o =>
    simp only [Machine.fastMicro, Option.ite_none_right_eq_some, Option.some.injEq] at ht ⊢
    obtain ⟨ha, rfl⟩ := ht
    have hout : u.source o = s.source o := State.source_of_same (fun x hx => hknown x (hreads hx))
    refine ⟨_, ⟨by rw [hu]; exact ha, rfl⟩, ?_, fun x hx => StaleReg.same_advance ?_⟩
    · rw [hout, hu]; rfl
    · rw [hout]
      exact StaleReg.same_startShift ((List.mem_append.mp hx).imp_right (hknown x)) _
  | takeRx i =>
    cases ht
    have hhold : u.rxhold = s.rxhold := hknown .rxhold (hreads (by simp [Micro.reads]))
    refine ⟨_, rfl, ?_, fun x hx => StaleReg.same_advance (StaleReg.same_clearDone ?_)⟩
    · rw [hhold, hu]; cases i <;> rfl
    · rw [hhold]
      simp only [Micro.defines, List.cons_append, List.nil_append, List.mem_cons] at hx
      rcases hx with rfl | rfl | hx
      · exact .inr (StaleReg.same_setTemp (.inl rfl) _)
      · exact .inl rfl
      · exact .inr (StaleReg.same_setTemp (.inr (hknown x hx)) _)
  | drain =>
    cases ht
    refine ⟨_, rfl, by rw [hu]; rfl, fun x hx => StaleReg.same_advance (StaleReg.same_clearDone ?_)⟩
    exact (List.mem_cons.mp hx).imp_right (hknown x)
  | memRead a i =>
    simp only [Machine.fastMicro, Option.ite_none_right_eq_some, Option.some.injEq] at ht ⊢
    obtain ⟨ha, rfl⟩ := ht
    have hmem : u.dmem = s.dmem := by rw [hu]; rfl
    refine ⟨_, ⟨ha, rfl⟩, ?_, fun x hx => StaleReg.same_advance (StaleReg.same_emit ?_ _ _)⟩
    · rw [hmem, hu]; cases i <;> rfl
    · rw [hmem]
      exact StaleReg.same_setTemp ((List.mem_cons.mp hx).imp_right (hknown x)) _
  | memWrite a i =>
    simp only [Machine.fastMicro, Option.ite_none_right_eq_some, Option.some.injEq] at ht ⊢
    obtain ⟨ha, rfl⟩ := ht
    have htemp : u.temp i = s.temp i := hknown (.temp i) (hreads (by simp [Micro.reads]))
    refine ⟨_, ⟨ha, rfl⟩, ?_, fun x hx => ?_⟩
    · rw [htemp, hu]; rfl
    · cases x <;> exact hknown _ hx
  | setRes f =>
    cases ht
    have hres : u.result f = s.result f := State.result_of_same (fun x hx => hknown x (hreads hx))
    refine ⟨_, rfl, by rw [hres, hu]; rfl, fun x hx => StaleReg.same_advance ?_⟩
    rw [hres]
    exact StaleReg.same_setRes ((List.mem_cons.mp hx).imp_right (hknown x)) _
  | respond r => cases ht

/-- Every register is defined before it is read, where those of `K` are defined at the start. -/
def DefinedBeforeRead : List StaleReg → List Micro → Prop
  | _, [] => True
  | K, m :: ms => m.reads ⊆ K ∧ DefinedBeforeRead (m.defines ++ K) ms

theorem DefinedBeforeRead.mono {K L : List StaleReg} {ms : List Micro} (h : DefinedBeforeRead K ms) (hK : K ⊆ L) :
    DefinedBeforeRead L ms := by
  induction ms generalizing K L with
  | nil => trivial
  | cons m ms ih =>
    obtain ⟨hreads, hrest⟩ := h
    refine ⟨List.Subset.trans hreads hK, ih hrest ?_⟩
    exact fun x hx => List.mem_append.mpr ((List.mem_append.mp hx).imp_right (@hK x))

theorem DefinedBeforeRead.append {K : List StaleReg} {a b : List Micro} (ha : DefinedBeforeRead K a)
    (hb : DefinedBeforeRead K b) : DefinedBeforeRead K (a ++ b) := by
  induction a generalizing K with
  | nil => exact hb
  | cons m a ih =>
    obtain ⟨hreads, hrest⟩ := ha
    exact ⟨hreads, ih hrest (hb.mono (List.subset_append_right _ _))⟩

/-- A loop each of whose turns defines what it reads. -/
theorem definedBeforeRead_flatMap {α : Type} {K : List StaleReg} {body : α → List Micro} (l : List α)
    (h : ∀ x, DefinedBeforeRead K (body x)) : DefinedBeforeRead K (l.flatMap body) := by
  induction l with
  | nil => trivial
  | cons x l ih => exact (h x).append ih

/-- Whole micro-operations in order, before others that are left to do. -/
theorem State.SameButStale.fastRun {K : List StaleReg} {body rest : List Micro} {s u t : State} (h : s.SameButStale K u)
    (hdef : DefinedBeforeRead K (body ++ rest)) (ht : fastRun body s = some t) :
    ∃ v L, Machine.fastRun body u = some v ∧ t.SameButStale L v ∧ DefinedBeforeRead L rest := by
  induction body generalizing K s u with
  | nil =>
    cases ht
    exact ⟨u, K, rfl, h, hdef⟩
  | cons m body ih =>
    obtain ⟨hreads, hdef⟩ := hdef
    rw [fastRun_cons, Option.bind_eq_some_iff] at ht
    obtain ⟨s', hs', ht⟩ := ht
    obtain ⟨u', hu', h'⟩ := h.fastMicro hreads hs'
    obtain ⟨v, L, hv, hL⟩ := ih h' hdef ht
    exact ⟨v, L, by rw [fastRun_cons, hu']; exact hv, hL⟩

theorem definedBeforeRead_lcdByte (c : Config) (level before : Bool) (b : Byte) :
    DefinedBeforeRead [] (lcdByte c level (.imm b) before) := by
  cases before <;>
    simp [lcdByte, xchg, endTx, select, deselect, DefinedBeforeRead, Micro.reads, Micro.defines, Source.reads]

/-- A character is sent from `T0`, into which it has just been read (R206). -/
theorem definedBeforeRead_character (c : Config) (a : Nat) :
    DefinedBeforeRead [] (.memRead a .t0 :: lcdDataByte c (.temp .t0)) := by
  unfold lcdDataByte
  cases c.lcdDrainCmdBefore <;>
    simp [lcdByte, xchg, endTx, select, deselect, DefinedBeforeRead, Micro.reads, Micro.defines, Source.reads]

theorem definedBeforeRead_drawLine (c : Config) (line : Byte × Byte) : DefinedBeforeRead [] (drawLine c line) :=
  (definedBeforeRead_lcdByte c _ _ _).append (definedBeforeRead_flatMap _ (fun _ => definedBeforeRead_character c _))

/-- R21, R42: no operation reads a register before it has written it. -/
theorem microSeq_definedBeforeRead (c : Config) (i : Instr) : DefinedBeforeRead [] (microSeq c i) := by
  have hrespond : DefinedBeforeRead [] [.respond false] := by simp [DefinedBeforeRead, Micro.reads]
  have hbegin : DefinedBeforeRead [] (beginTx c .rtc) := by
    simp [DefinedBeforeRead, beginTx, select, Micro.reads]
  have hend : DefinedBeforeRead [] (endTx c .rtc) := by simp [DefinedBeforeRead, endTx, deselect, Micro.reads]
  have hxchg : ∀ b, DefinedBeforeRead [] (xchg (.imm b)) := fun b => by
    simp [DefinedBeforeRead, xchg, Micro.reads, Micro.defines, Source.reads]
  cases i with
  | rtcWr a v => exact (((hbegin.append (hxchg _)).append (hxchg _)).append hend).append hrespond
  | rtcRd a =>
    simp [microSeq, rtcRdSeq, rtcReadTx, beginTx, endTx, xchg, xchgTake, select, deselect, DefinedBeforeRead, Micro.reads,
      Micro.defines, Source.reads, ResultForm.reads]
  | rtcBwr b a n =>
    have hturn : ∀ k, DefinedBeforeRead [] (blockWriteByte b k) := fun k => by
      simp [DefinedBeforeRead, blockWriteByte, xchg, Micro.reads, Micro.defines, Source.reads]
    exact (((hbegin.append (hxchg _)).append (definedBeforeRead_flatMap _ hturn)).append hend).append hrespond
  | rtcBrd b a n =>
    have hturn : ∀ k, DefinedBeforeRead [] (blockReadByte c b k) := fun k => by
      simp [DefinedBeforeRead, blockReadByte, xchgTake, Micro.reads, Micro.defines, Source.reads]
    exact (((hbegin.append (hxchg _)).append (definedBeforeRead_flatMap _ hturn)).append hend).append hrespond
  | rtcTime =>
    simp [microSeq, rtcTimeSeq, rtcReadTx, beginTx, endTx, xchg, xchgTake, select, deselect, DefinedBeforeRead, Micro.reads,
      Micro.defines, Source.reads, ResultForm.reads]
  | fmtTime b => trivial
  | snsCfg => simp [microSeq, snsCfgSeq, DefinedBeforeRead, Micro.reads]
  | snsRd =>
    simp [microSeq, snsRdSeq, endTx, xchgTake, select, deselect, DefinedBeforeRead, Micro.reads, Micro.defines, Source.reads,
      ResultForm.reads]
  | lcdCmd b => exact (definedBeforeRead_lcdByte c _ _ _).append hrespond
  | lcdDat b => exact (definedBeforeRead_lcdByte c _ _ _).append hrespond
  | lcdInit =>
    have hpower : DefinedBeforeRead [] [.delay .lcdPowerup] := by simp [DefinedBeforeRead, Micro.reads]
    exact (hpower.append (definedBeforeRead_flatMap _ (fun _ => definedBeforeRead_lcdByte c _ _ _))).append hrespond
  | lcdDraw x y z => exact (definedBeforeRead_flatMap _ (definedBeforeRead_drawLine c)).append hrespond
  | crRd n => trivial

/-- Settles O54: the run of the one state's operation is one of the other's (`State.SameButStale.fastRun`), since no operation
reads a stale register (`microSeq_definedBeforeRead`), nor does its `Respond`. -/
theorem staleStateNeverLeaks : Obligations.StaleStateNeverLeaks := by
  intro s u i ans rest hu hwf hready hrx hlen hnever hstale
  obtain ⟨body, r, t, hseq, hrun⟩ := State.exists_fastRun_of_ready ⟨hu, hwf⟩ hready hrx hlen hnever
  have hserving : u.serving = s.serving := by rw [hstale]
  have hseqs : microSeq u.cfg i = body ++ [.respond r] := by rw [← hseq, hstale]
  have hreadyu : u.readyFor i = true := by rw [hstale]; exact hready
  have hstart : (s.grant s.serving).SameButStale [] (u.grant u.serving) := ⟨by rw [hstale]; rfl, nofun⟩
  obtain ⟨v, L, hrunu, ⟨hrest, hknown⟩, hdef, -⟩ :=
    hstart.fastRun (hseq ▸ microSeq_definedBeforeRead s.cfg i) hrun
  have hanswer : (if r then v.res else 0) = if r then t.res else 0 := by
    cases r with
    | false => rfl
    | true => exact hknown .res (hdef (by simp [Micro.reads]))
  refine ⟨_, _, exec_of_fastRun ⟨hu, hwf⟩ hready hseq hrun, exec_of_fastRun ⟨hu, hwf⟩ hreadyu hseqs hrunu, ?_, ?_, ?_⟩
  · rw [State.release_trace, State.release_trace, hanswer, hserving, hrest]
    rfl
  · rw [State.release_dmem, State.release_dmem, hrest]
    rfl
  · rw [State.release_periph, State.release_periph, hrest]
    rfl

/-! ### The counts of the micro-sequences (R296) -/

/-- The list has so many micro-operations, exchanges and transactions (R296). -/
def Counts (c : Config) (ms : List Micro) (ops exchanges transactions : Nat) : Prop :=
  ms.length = ops ∧ exchangeCount ms = exchanges ∧ transactionCount c ms = transactions

theorem transactionCount_append (c : Config) (a b : List Micro) :
    transactionCount c (a ++ b) = transactionCount c a + transactionCount c b := by
  rw [transactionCount, List.filter_append, List.length_append]
  rfl

theorem Counts.append {c : Config} {a b : List Micro} {n e t n' e' t' : Nat} (ha : Counts c a n e t)
    (hb : Counts c b n' e' t') : Counts c (a ++ b) (n + n') (e + e') (t + t') := by
  obtain ⟨rfl, rfl, rfl⟩ := ha
  obtain ⟨rfl, rfl, rfl⟩ := hb
  exact ⟨List.length_append, exchangeCount_append a b, transactionCount_append c a b⟩

/-- A loop of `k` turns that count the same. -/
theorem counts_flatMap {α : Type} {c : Config} {body : α → List Micro} {l : List α} {k n e t : Nat} (hl : l.length = k)
    (h : ∀ x, Counts c (body x) n e t) : Counts c (l.flatMap body) (k * n) (k * e) (k * t) := by
  subst hl
  induction l with
  | nil => simp only [List.length_nil, Nat.zero_mul]; exact ⟨rfl, rfl, rfl⟩
  | cons x l ih =>
    rw [List.flatMap_cons, List.length_cons, Nat.add_comm, Nat.add_mul, Nat.add_mul, Nat.add_mul]
    simp only [Nat.one_mul]
    exact (h x).append ih

theorem counts_beginTx (c : Config) (d : Dev) : Counts c (beginTx c d) 3 0 0 :=
  ⟨rfl, rfl, by simp [transactionCount, beginTx, select]⟩

/-- A transaction is counted at its deselect. -/
theorem counts_endTx (c : Config) (d : Dev) : Counts c (endTx c d) 3 0 1 :=
  ⟨rfl, rfl, by simp [transactionCount, endTx, deselect]⟩

theorem counts_xchg (c : Config) (o : Source) : Counts c (xchg o) 2 1 0 := ⟨rfl, rfl, rfl⟩

theorem counts_xchgTake (c : Config) (o : Source) (i : Temp) : Counts c (xchgTake o i) 3 1 0 := ⟨rfl, rfl, rfl⟩

theorem counts_respond (c : Config) (r : Bool) : Counts c [.respond r] 1 0 0 := ⟨rfl, rfl, rfl⟩

theorem counts_result (c : Config) (f : ResultForm) : Counts c [.setRes f, .respond true] 2 0 0 := ⟨rfl, rfl, rfl⟩

theorem counts_rtcReadTx (c : Config) (a : Byte) (i : Temp) : Counts c (rtcReadTx c a i) 11 2 1 :=
  (((counts_beginTx c .rtc).append (counts_xchg c _)).append (counts_xchgTake c _ i)).append (counts_endTx c .rtc)

/-- A transaction of the RTC whose loop of one exchange a turn has `m` micro-operations in each of its `k` turns. -/
theorem counts_blockTransfer {c : Config} {body : Nat → List Micro} {k m : Nat} (tag : Source)
    (h : ∀ j, Counts c (body j) m 1 0) :
    Counts c (beginTx c .rtc ++ xchg tag ++ (List.range k).flatMap body ++ endTx c .rtc ++ [.respond false])
      (9 + m * k) (1 + k) 1 := by
  have hloop := counts_flatMap (List.length_range (n := k)) h
  obtain ⟨hops, hexchanges, htransactions⟩ :=
    ((((counts_beginTx c .rtc).append (counts_xchg c tag)).append hloop).append (counts_endTx c .rtc)).append
      (counts_respond c false)
  rw [Nat.mul_comm] at hops
  exact ⟨by omega, by omega, by omega⟩

/-- One LCD byte is ten micro-operations, whichever way it is drained (R200). -/
theorem counts_lcdByte (c : Config) (level : Bool) (b : Source) (before : Bool) :
    Counts c (lcdByte c level b before) 10 1 1 := by
  have hbegin : Counts c [.cfg .lcd, .line .rs level, select c .lcd, .delay (.setup .lcd)] 4 0 0 :=
    ⟨rfl, rfl, by simp [transactionCount, select]⟩
  have hdrained : Counts c (if before then .drain :: xchg b else xchg b ++ [.drain]) 3 1 0 := by
    cases before <;> exact ⟨rfl, rfl, rfl⟩
  exact (hbegin.append hdrained).append (counts_endTx c .lcd)

theorem counts_drawLine (c : Config) (line : Byte × Byte) : Counts c (drawLine c line) 186 17 17 := by
  have hread : ∀ a, Counts c [.memRead a .t0] 1 0 0 := fun _ => ⟨rfl, rfl, rfl⟩
  have hcharacter : ∀ k, Counts c (.memRead (bufferAddr line.2 k) .t0 :: lcdDataByte c (.temp .t0)) 11 1 1 := fun k =>
    (hread _).append (counts_lcdByte c _ _ _)
  exact (counts_lcdByte c _ _ _).append (counts_flatMap (List.length_range (n := 16)) hcharacter)

theorem counts_snsRd (c : Config) : Counts c (microSeq c .snsRd) 24 4 1 := by
  have hnext : ∀ i, Counts c (select c .sns :: xchgTake (.imm c.dummyByte) i) 4 1 0 := fun i =>
    ⟨rfl, rfl, by simp [transactionCount, select, xchgTake]⟩
  have hwarmup : Counts c [.delay .snsWarmup] 1 0 0 := ⟨rfl, rfl, rfl⟩
  have hfirst := ((counts_beginTx c .sns).append (counts_xchgTake c (.imm c.dummyByte) .t0)).append hwarmup
  have hbytes := ((hfirst.append (hnext .t1)).append (hnext .t2)).append (hnext .t3)
  exact (hbytes.append (counts_endTx c .sns)).append (counts_result c .sample)

theorem counts_lcdInit (c : Config) : Counts c (microSeq c .lcdInit) 92 9 9 := by
  have hpower : Counts c [.delay .lcdPowerup] 1 0 0 := ⟨rfl, rfl, rfl⟩
  have hbytes : Counts c (c.lcdInitSeq.toList.flatMap (fun b => lcdCommandByte c (.imm b))) (9 * 10) (9 * 1) (9 * 1) :=
    counts_flatMap rfl (fun _ => counts_lcdByte c _ _ _)
  exact (hpower.append hbytes).append (counts_respond c false)

theorem counts_lcdDraw (c : Config) (x y z : Byte) : Counts c (microSeq c (.lcdDraw x y z)) 559 51 51 :=
  (counts_flatMap (l := drawLines c x y z) (k := 3) rfl (counts_drawLine c)).append (counts_respond c false)

/-- Settles O40: the counts of a micro-sequence are the sums of its parts' (`Counts.append`, `counts_flatMap`). -/
theorem microOperationCounts : Obligations.MicroOperationCounts := by
  intro c a b k x y z
  have hwrite : Counts c (microSeq c (.rtcWr a b)) 11 2 1 :=
    ((((counts_beginTx c .rtc).append (counts_xchg c _)).append (counts_xchg c _)).append (counts_endTx c .rtc)).append
      (counts_respond c false)
  have hread : Counts c (microSeq c (.rtcRd a)) 13 2 1 := (counts_rtcReadTx c a .t0).append (counts_result c .readByte)
  have hblockWrite : Counts c (microSeq c (.rtcBwr a b k)) (9 + 3 * k.toNat) (1 + k.toNat) 1 :=
    counts_blockTransfer _ (fun _ => ⟨rfl, rfl, rfl⟩)
  have hblockRead : Counts c (microSeq c (.rtcBrd a b k)) (9 + 4 * k.toNat) (1 + k.toNat) 1 :=
    counts_blockTransfer _ (fun _ => ⟨rfl, rfl, rfl⟩)
  have htime : Counts c (microSeq c .rtcTime) 35 6 3 :=
    (((counts_rtcReadTx c _ .t1).append (counts_rtcReadTx c _ .t2)).append (counts_rtcReadTx c _ .t3)).append
      (counts_result c .time)
  have hcommand : Counts c (microSeq c (.lcdCmd a)) 11 1 1 := (counts_lcdByte c _ _ _).append (counts_respond c false)
  have hdata : Counts c (microSeq c (.lcdDat a)) 11 1 1 := (counts_lcdByte c _ _ _).append (counts_respond c false)
  exact ⟨hwrite, hread, hblockWrite, hblockRead, htime, ⟨rfl, rfl, rfl⟩, counts_snsRd c, hcommand, hdata, counts_lcdInit c,
    counts_lcdDraw c x y z, rfl, rfl⟩

end Sys2Proof.Machine
